-- ==== Sys2Proof/Word.lean ====
section
/-! DEFINITION. The words of the hardware: every value is unsigned (00_scope.md R10). -/

namespace Sys2Proof

/-- A byte, 0..255 (00_scope.md R10). -/
abbrev Byte := BitVec 8

/-- A word, `u32` (00_scope.md R10). All arithmetic on it wraps modulo 2^32 (R11, R13). -/
abbrev Word := BitVec 32

/-- A `u64`: lengths and offsets (00_scope.md R9, R10). -/
abbrev U64 := BitVec 64

end Sys2Proof
end

