-- ==== Sys2Proof/Config.lean ====
section
/-! DEFINITION. What is fixed for all time (00_scope.md R8): the constant tables, and the free values. -/

namespace Sys2Proof

/-- A row of the round-constant table as the spec prints it: the prime, the integer part of its cube root, and the constant,
the first 32 bits of the root's fraction (40_constants.md R101). -/
structure ConstantRow where
  prime : Nat
  int : Nat
  word : Word
deriving DecidableEq, Repr

/-- The rows t = 0 .. 15 (40_constants.md R101). -/
def Config.kRows0 : List ConstantRow :=
  [⟨2, 1, 0x428a2f98⟩, ⟨3, 1, 0x71374491⟩, ⟨5, 1, 0xb5c0fbcf⟩, ⟨7, 1, 0xe9b5dba5⟩,
   ⟨11, 2, 0x3956c25b⟩, ⟨13, 2, 0x59f111f1⟩, ⟨17, 2, 0x923f82a4⟩, ⟨19, 2, 0xab1c5ed5⟩,
   ⟨23, 2, 0xd807aa98⟩, ⟨29, 3, 0x12835b01⟩, ⟨31, 3, 0x243185be⟩, ⟨37, 3, 0x550c7dc3⟩,
   ⟨41, 3, 0x72be5d74⟩, ⟨43, 3, 0x80deb1fe⟩, ⟨47, 3, 0x9bdc06a7⟩, ⟨53, 3, 0xc19bf174⟩]

/-- The rows t = 16 .. 31 (40_constants.md R101). -/
def Config.kRows1 : List ConstantRow :=
  [⟨59, 3, 0xe49b69c1⟩, ⟨61, 3, 0xefbe4786⟩, ⟨67, 4, 0x0fc19dc6⟩, ⟨71, 4, 0x240ca1cc⟩,
   ⟨73, 4, 0x2de92c6f⟩, ⟨79, 4, 0x4a7484aa⟩, ⟨83, 4, 0x5cb0a9dc⟩, ⟨89, 4, 0x76f988da⟩,
   ⟨97, 4, 0x983e5152⟩, ⟨101, 4, 0xa831c66d⟩, ⟨103, 4, 0xb00327c8⟩, ⟨107, 4, 0xbf597fc7⟩,
   ⟨109, 4, 0xc6e00bf3⟩, ⟨113, 4, 0xd5a79147⟩, ⟨127, 5, 0x06ca6351⟩, ⟨131, 5, 0x14292967⟩]

/-- The rows t = 32 .. 47 (40_constants.md R101). -/
def Config.kRows2 : List ConstantRow :=
  [⟨137, 5, 0x27b70a85⟩, ⟨139, 5, 0x2e1b2138⟩, ⟨149, 5, 0x4d2c6dfc⟩, ⟨151, 5, 0x53380d13⟩,
   ⟨157, 5, 0x650a7354⟩, ⟨163, 5, 0x766a0abb⟩, ⟨167, 5, 0x81c2c92e⟩, ⟨173, 5, 0x92722c85⟩,
   ⟨179, 5, 0xa2bfe8a1⟩, ⟨181, 5, 0xa81a664b⟩, ⟨191, 5, 0xc24b8b70⟩, ⟨193, 5, 0xc76c51a3⟩,
   ⟨197, 5, 0xd192e819⟩, ⟨199, 5, 0xd6990624⟩, ⟨211, 5, 0xf40e3585⟩, ⟨223, 6, 0x106aa070⟩]

/-- The rows t = 48 .. 63 (40_constants.md R101). -/
def Config.kRows3 : List ConstantRow :=
  [⟨227, 6, 0x19a4c116⟩, ⟨229, 6, 0x1e376c08⟩, ⟨233, 6, 0x2748774c⟩, ⟨239, 6, 0x34b0bcb5⟩,
   ⟨241, 6, 0x391c0cb3⟩, ⟨251, 6, 0x4ed8aa4a⟩, ⟨257, 6, 0x5b9cca4f⟩, ⟨263, 6, 0x682e6ff3⟩,
   ⟨269, 6, 0x748f82ee⟩, ⟨271, 6, 0x78a5636f⟩, ⟨277, 6, 0x84c87814⟩, ⟨281, 6, 0x8cc70208⟩,
   ⟨283, 6, 0x90befffa⟩, ⟨293, 6, 0xa4506ceb⟩, ⟨307, 6, 0xbef9a3f7⟩, ⟨311, 6, 0xc67178f2⟩]

/-- The 64 rows, in index order (40_constants.md R101). -/
def Config.kRows : List ConstantRow := Config.kRows0 ++ Config.kRows1 ++ Config.kRows2 ++ Config.kRows3

/-- The round-constant table `K[0..63]`, "a fixed-size ordered table indexed directly" (40_constants.md R101, R105). That it is what
the derivation gives is the self-check of R104, `constantsSelfCheck` in Machine/Constants.lean. -/
def Config.K : Vector Word 64 := ⟨(Config.kRows.map ConstantRow.word).toArray, rfl⟩

/-- The initial hash table `HINIT[0..7]` (40_constants.md R102). -/
def Config.HINIT : Vector Word 8 :=
  #v[0x6a09e667, 0xbb67ae85, 0x3c6ef372, 0xa54ff53a, 0x510e527f, 0x9b05688c, 0x1f83d9ab, 0x5be0cd19]

/-- `K[t]`, selected by ROUND's 6-bit index alone (40_constants.md R105). -/
def Config.kAt (t : BitVec 6) : Word := Config.K[t.toNat]'(t.isLt)

/-- Where a value that the spec leaves open would be read: a register element, or a byte of the message memory. -/
inductive Slot where
  | H (i : Nat)
  | wv (i : Nat)
  | W (t : Nat)
  | T (j : Nat)
  | B (j : Nat)
  | LEN
  | L
  | PADBITS
  | TLEN
  | TOTAL
  | I
  | MSG (off : Nat)
deriving DecidableEq, Repr

/-- THE FREE VALUE (DESIGN CHOICE, log entries 1, 2, 12): what a read of an element that holds no value gives, in a step taken when
the state's counter `draw` is `draw`. It has no body: nothing constrains it. -/
opaque Config.noValue (draw : Nat) (slot : Slot) (w : Nat) : BitVec w

/-- What a byte of the message memory that nothing has written reads as. DESIGN CHOICE (log entry 4), unsafe: the spec
says a read below LEN never fails (93 U5) and does not say what the host leaves there. -/
def Config.blankByte : Byte := 0

end Sys2Proof
end

