-- ==== Sys2Proof/Machine/Bits.lean ====
section
/-! DEFINITION. The word operators and the bit primitives as functions (00_scope.md R11, 41_bit_primitives.md R110 to R119),
the round update, and the padding arithmetic (42_padder.md R120). -/

namespace Sys2Proof.Machine

/-- `be32(b0, b1, b2, b3)`: the first byte is the most significant (00_scope.md R11). -/
def be32 (b0 b1 b2 b3 : Byte) : Word := b0 ++ b1 ++ b2 ++ b3

/-- `byte_be32(x, k)`, byte `k` of the big-endian serialisation of `x`, `k` in 0..3 (00_scope.md R11). -/
def byteBe32 (x : Word) (k : Nat) : Byte := (x >>> (8 * (3 - k))).setWidth 8

/-- `byte_be64(v, k)` = `(v >> (8 × (7 − k))) mod 256` of a `u64`, `k` in 0..7 (00_scope.md R11). -/
def byteBe64 (v : U64) (k : Nat) : Byte := (v >>> (8 * (7 - k))).setWidth 8

/-- `rotr(x, n)`: the count is reduced mod 32, and the case 0 is written apart so that no shift by 32 is evaluated
(41_bit_primitives.md R110, 90_conflicts.md C5). -/
def rotr (x : Word) (n : Nat) : Word :=
  if n % 32 = 0 then x else (x >>> (n % 32)) ||| (x <<< (32 - n % 32))

/-- `shr(x, n)`: logical shift right, 0 when `n >= 32`; the count is not reduced (41_bit_primitives.md R111). -/
def shr (x : Word) (n : Nat) : Word := if n ≤ 31 then x >>> n else 0

/-- `ch(x, y, z)` (41_bit_primitives.md R112). -/
def ch (x y z : Word) : Word := (x &&& y) ^^^ (~~~x &&& z)

/-- `maj(x, y, z)` (41_bit_primitives.md R113). -/
def maj (x y z : Word) : Word := (x &&& y) ^^^ (x &&& z) ^^^ (y &&& z)

/-- Σ0 (41_bit_primitives.md R114). -/
def bsig0 (x : Word) : Word := rotr x 2 ^^^ rotr x 13 ^^^ rotr x 22

/-- Σ1 (41_bit_primitives.md R115). -/
def bsig1 (x : Word) : Word := rotr x 6 ^^^ rotr x 11 ^^^ rotr x 25

/-- σ0; the third term is a shift (41_bit_primitives.md R116). -/
def ssig0 (x : Word) : Word := rotr x 7 ^^^ rotr x 18 ^^^ shr x 3

/-- σ1; the third term is a shift (41_bit_primitives.md R117). -/
def ssig1 (x : Word) : Word := rotr x 17 ^^^ rotr x 19 ^^^ shr x 10

/-- A schedule word from the four words at distances 2, 7, 15, 16 (43_compressor.md R142); `+` on words is `add32`
(00_scope.md R11, 41_bit_primitives.md R119). -/
def expandWord (w2 w7 w15 w16 : Word) : Word := ssig1 w2 + w7 + ssig0 w15 + w16

/-- The values of the eight working variables. -/
structure Vars where
  a : Word
  b : Word
  c : Word
  d : Word
  e : Word
  f : Word
  g : Word
  h : Word
deriving DecidableEq, Repr

/-- `T1` of a round (43_compressor.md R145). -/
def roundT1 (v : Vars) (k w : Word) : Word := v.h + bsig1 v.e + ch v.e v.f v.g + k + w

/-- `T2` of a round (43_compressor.md R145). -/
def roundT2 (v : Vars) : Word := bsig0 v.a + maj v.a v.b v.c

/-- The update of one round, all eight writes at once (43_compressor.md R145). -/
def roundUpdate (v : Vars) (k w : Word) : Vars :=
  { a := roundT1 v k w + roundT2 v
    b := v.a
    c := v.b
    d := v.c
    e := v.d + roundT1 v k w
    f := v.e
    g := v.f
    h := v.g }

/-- `pad_bits` for a message of `lb` bits, in unbounded integers (42_padder.md R120, R121). -/
def padBits (lb : Nat) : Nat := (512 - (lb + 8 + 64) % 512) % 512

/-- The tail's byte length, `(8 + pad_bits + 64)/8`, for a message of `len` bytes (42_padder.md R120). -/
def tailLen (len : Nat) : Nat := (8 + padBits (8 * len) + 64) / 8

/-- The bit length `8 × LEN` of a message of `len < 2^61` bytes (10_state.md R26). A longer one has no `u64` bit length; where PAD meets one
it writes a free value (`State.padWrites`), and no statement applies this function to one (DESIGN CHOICE, log entry 12). -/
def bitLength (len : Nat) : U64 := BitVec.ofNat 64 (8 * len)

/-- Byte `j` of the padding tail of a message of `len` bytes: the separator, then zeros, then `byte_be64(L, k)`, the bytes of the
bit length `l` (42_padder.md R120, 30_encoding.md R71, R73). -/
def tailByte (len : Nat) (l : U64) (j : Nat) : Byte :=
  if j = 0 then 0x80
  else if j + 9 ≤ tailLen len then 0x00
  else byteBe64 l (j - (tailLen len - 8))

end Sys2Proof.Machine
end

