-- ==== Sys2Proof/Syntax.lean ====
section
/-! DEFINITION. The operations of the hardware, one constructor per row of spec/opcode_table.json (30_encoding.md R80 to R87). -/

namespace Sys2Proof

/-- The three operation formats (30_encoding.md R80): host commands on the CMD port, micro-operations in
`pc`, and the reference numbers of the bit primitives. -/
inductive Format where
  | c
  | u
  | f
deriving DecidableEq, Repr

/-- The number of bits of a word of each format (30_encoding.md R80). -/
def Format.width : Format → Nat
  | .c => 2
  | .u => 10
  | .f => 3

/-- The operations. START takes its length from the MSG_LEN port (R81); the bit primitives take their operands
as values that no encoding holds (R83), in this model from the operand wires `fu` of the state; no step
issues them (R83). -/
inductive Instr where
  -- format C, host commands (R84)
  | cmdNone
  | start
  | abort
  | cmdReserved
  -- format U, micro-operations (R85)
  | idle
  | pad
  | blkMsg
  | blkTail
  | blkMerge
  | loadw (t : BitVec 4)
  | expand (t : BitVec 6)
  | initv
  | round (t : BitVec 6)
  | fold
  | next
  | emit
  -- format F, bit primitives (R87)
  | rotr
  | shr
  | ch
  | maj
  | bsig0
  | bsig1
  | ssig0
  | ssig1
deriving DecidableEq, Repr

/-- Which format an operation has (30_encoding.md R84, R85, R87). -/
def Instr.format : Instr → Format
  | .cmdNone | .start | .abort | .cmdReserved => .c
  | .idle | .pad | .blkMsg | .blkTail | .blkMerge | .loadw _ | .expand _ | .initv | .round _ | .fold | .next
  | .emit => .u
  | .rotr | .shr | .ch | .maj | .bsig0 | .bsig1 | .ssig0 | .ssig1 => .f

end Sys2Proof
end

