-- ==== Sys2Proof/WellFormed.lean ====
section
/-! DEFINITION. Which terms of Instr are operations of the hardware (30_encoding.md R85, R88). -/

namespace Sys2Proof

/-- The one range an operand's width does not enforce: EXPAND's index is 16..63 (30_encoding.md R85, R88). LOADW's
index has 4 bits (0..15) and ROUND's 6 bits (0..63). -/
def Instr.wellFormed : Instr → Bool
  | .expand t => decide (16 ≤ t.toNat)
  | .cmdNone | .start | .abort | .cmdReserved | .idle | .pad | .blkMsg | .blkTail | .blkMerge | .loadw _
  | .initv | .round _ | .fold | .next | .emit | .rotr | .shr | .ch | .maj | .bsig0 | .bsig1 | .ssig0
  | .ssig1 => true

end Sys2Proof
end

