-- ==== Sys2Proof/Decode.lean ====
section
/-! DEFINITION. Decoding and encoding of the three operation formats (30_encoding.md R80 to R89). -/

namespace Sys2Proof

/-- Why a word is no operation. -/
inductive Reject where
  /-- The word has a bit above its format's width (R80). -/
  | wordTooWide (fmt : Format) (w : Nat)
  /-- OP is 12..15 (R88). -/
  | reservedOp (op : BitVec 4) (t : BitVec 6)
  /-- A legal OP with TCTR outside its range (R88). -/
  | indexOutOfRange (op : BitVec 4) (t : BitVec 6)
deriving DecidableEq, Repr

/-- What a decoder answers. -/
inductive Decoded where
  | ok (i : Instr)
  | reject (r : Reject)
deriving DecidableEq, Repr

/-- Format C: `CMD[1:0]` (R81, R84). -/
def decodeC (c : BitVec 2) : Instr :=
  match c.toNat with
  | 0 => .cmdNone
  | 1 => .start
  | 2 => .abort
  | _ => .cmdReserved

/-- Format F: `FN[2:0]` (R83, R87). -/
def decodeF (fn : BitVec 3) : Instr :=
  match fn.toNat with
  | 0 => .rotr
  | 1 => .shr
  | 2 => .ch
  | 3 => .maj
  | 4 => .bsig0
  | 5 => .bsig1
  | 6 => .ssig0
  | _ => .ssig1

/-- A micro-operation without an index has TCTR = 0 (R82, R85). -/
def decodePlain (i : Instr) (op : BitVec 4) (t : BitVec 6) : Decoded :=
  if t.toNat = 0 then .ok i else .reject (.indexOutOfRange op t)

/-- Format U: the pair `(OP, TCTR)` (R82, R85, R88). -/
def decodeU (op : BitVec 4) (t : BitVec 6) : Decoded :=
  match op.toNat with
  | 0 => decodePlain .idle op t
  | 1 => decodePlain .pad op t
  | 2 => decodePlain .blkMsg op t
  | 3 => decodePlain .blkTail op t
  | 4 => decodePlain .blkMerge op t
  | 5 => if t.toNat < 16 then .ok (.loadw (t.setWidth 4)) else .reject (.indexOutOfRange op t)
  | 6 => if 16 ≤ t.toNat then .ok (.expand t) else .reject (.indexOutOfRange op t)
  | 7 => decodePlain .initv op t
  | 8 => .ok (.round t)
  | 9 => decodePlain .fold op t
  | 10 => decodePlain .next op t
  | 11 => decodePlain .emit op t
  | _ => .reject (.reservedOp op t)

/-- The word `{OP[3:0], TCTR[5:0]}` as a number: OP in bits 9..6, TCTR in bits 5..0 (R82). -/
def microWord (op : BitVec 4) (t : BitVec 6) : Nat := op.toNat * 64 + t.toNat

/-- The decoder: total on every format and every number, rejecting by name. -/
def decode (fmt : Format) (w : Nat) : Decoded :=
  if 2 ^ fmt.width ≤ w then .reject (.wordTooWide fmt w)
  else
    match fmt with
    | .c => .ok (decodeC (BitVec.ofNat 2 w))
    | .u => decodeU (BitVec.ofNat 4 (w / 64)) (BitVec.ofNat 6 (w % 64))
    | .f => .ok (decodeF (BitVec.ofNat 3 w))

/-- The OP code of a micro-operation (R85); IDLE's code for an operation of another format, which has none. -/
def Instr.op : Instr → BitVec 4
  | .idle => 0
  | .pad => 1
  | .blkMsg => 2
  | .blkTail => 3
  | .blkMerge => 4
  | .loadw _ => 5
  | .expand _ => 6
  | .initv => 7
  | .round _ => 8
  | .fold => 9
  | .next => 10
  | .emit => 11
  | .cmdNone | .start | .abort | .cmdReserved => 0
  | .rotr | .shr | .ch | .maj | .bsig0 | .bsig1 | .ssig0 | .ssig1 => 0

/-- The TCTR operand of a micro-operation: its index, "for micro-operations without an index it is 0" (R82). -/
def Instr.tctr : Instr → BitVec 6
  | .loadw t => t.setWidth 6
  | .expand t => t
  | .round t => t
  | .cmdNone | .start | .abort | .cmdReserved | .idle | .pad | .blkMsg | .blkTail | .blkMerge | .initv | .fold
  | .next | .emit | .rotr | .shr | .ch | .maj | .bsig0 | .bsig1 | .ssig0 | .ssig1 => 0

/-- The word of an operation, in its own format (R84, R85, R87). -/
def encode (i : Instr) : Nat :=
  match i with
  | .cmdNone => 0
  | .start => 1
  | .abort => 2
  | .cmdReserved => 3
  | .rotr => 0
  | .shr => 1
  | .ch => 2
  | .maj => 3
  | .bsig0 => 4
  | .bsig1 => 5
  | .ssig0 => 6
  | .ssig1 => 7
  | .idle | .pad | .blkMsg | .blkTail | .blkMerge | .loadw _ | .expand _ | .initv | .round _ | .fold | .next
  | .emit => microWord i.op i.tctr

/-- Which format a word of `nbits` bits of the operation table has. The table gives formats C, F, U the widths 2, 3
and 10 (R80); rounded up to whole bytes these are 8, 8 and 16. DESIGN CHOICE (log entry 8): of the words
of 8 bits, 0..3 are read as format C, the only format a host can see, and 4..7 as format F. -/
def tableFormat (nbits w : Nat) : Option Format :=
  match nbits with
  | 2 => some .c
  | 3 => some .f
  | 8 => if w < 4 then some .c else some .f
  | 10 => some .u
  | 16 => some .u
  | _ => none

/-- The operation the decoder reads from a word of spec/opcode_table.json, bit 0 its least significant bit. -/
def decodeTableWord (nbits w : Nat) : Option Instr :=
  match tableFormat nbits w with
  | none => none
  | some fmt =>
    match decode fmt w with
    | .ok i => some i
    | .reject _ => none

end Sys2Proof
end

