-- ==== Sys2Proof/Machine/State.lean ====
section
/-! DEFINITION. The complete state of one core and its ports (10_state.md R20 to R40), and its reset. -/

namespace Sys2Proof.Machine

/-- STATUS, 2 bits; every code has a name (10_state.md R30, 30_encoding.md R86). -/
inductive Status where
  | idle
  | busy
  | done
  | fault
deriving DecidableEq, Repr

/-- FAULT_CODE, 2 bits; every code has a name (60_exceptions.md R201). `malformedConstants` is never written at run time
(R204). -/
inductive FaultCode where
  | none
  | inputTooLarge
  | invariantViolation
  | malformedConstants
deriving DecidableEq, Repr

/-- The message memory: (offset, byte) pairs, offsets strictly rising, no entry equal to `Config.blankByte`, which an
unlisted offset reads as. -/
abbrev Memory := List Host.Cell

/-- The working variables, "eight separate u32 registers with no alias" (10_state.md R22). -/
structure Working where
  a : Option Word
  b : Option Word
  c : Option Word
  d : Option Word
  e : Option Word
  f : Option Word
  g : Option Word
  h : Option Word
deriving DecidableEq, Repr

/-- The operand and result wires of the function units, the model's own (DESIGN CHOICE, log entry 7): `x y z` the word operands
of a primitive, `n` its count, `result` what it evaluates to. The number of a primitive (format F) is "nowhere in state"
(30_encoding.md R80), no step issues one (R83) and no host event drives these wires. The core's own
micro-operations neither read nor write them. -/
structure FunctionUnit where
  x : Word
  y : Word
  z : Word
  n : Nat
  result : Option Word
deriving DecidableEq, Repr

/-- The state of one core, its ports and its message memory, named as 10_state.md R20 names them. `none` in a register is
the spec's own *no value* (00_scope.md R12). K and HINIT are fixed tables, "not state" (R8): they stand in Config. -/
structure State where
  /-- H[0..7], the running hash state (R21). -/
  H : Vector (Option Word) 8
  /-- a..h, the working variables (R22). -/
  wv : Working
  /-- W[0..63], the message schedule (R23). -/
  W : Vector (Option Word) 64
  /-- T[0..71], the padding tail (R24). -/
  T : Vector (Option Byte) 72
  /-- B[0..63], the current block (R25). -/
  B : Vector (Option Byte) 64
  /-- The message length in bytes (R26). -/
  LEN : Option U64
  /-- The message length in bits (R26). -/
  L : Option U64
  /-- The number of zero pad bits (R27). -/
  PADBITS : Option (BitVec 9)
  /-- The tail length in bytes (R27). -/
  TLEN : Option (BitVec 7)
  /-- The padded stream's length in bytes (R27). -/
  TOTAL : Option U64
  /-- The offset of the current window (R28). -/
  I : Option U64
  /-- The CMD event port (R29): the command presented and not yet taken, if any. -/
  CMD : Option (BitVec 2)
  /-- The MSG_LEN port (R29). -/
  MSG_LEN : U64
  /-- The STATUS port (R30). -/
  STATUS : Status
  /-- The FAULT_CODE port (R30). -/
  FAULT_CODE : FaultCode
  /-- The DIGEST port (R30). -/
  DIGEST : Option (Vector Byte 32)
  /-- `pc`: the next micro-operation's code (R31). -/
  OP : BitVec 4
  /-- `pc`: its index operand (R31). -/
  TCTR : BitVec 6
  /-- An ABORT waits for the block boundary (R32). -/
  ABORT_PENDING : Bool
  /-- The message memory (R35). -/
  MSG : Memory
  /-- The model's own: which free values a read of *no value* gives (DESIGN CHOICE, log entry 2). -/
  draw : Nat
  /-- The model's own: the function units' wires (log entry 7). -/
  fu : FunctionUnit
deriving DecidableEq, Repr

/-- How the machine stops. -/
inductive Fault where
  /-- A `pc` outside the table of 30_encoding.md R85 (OP 12..15, or an index outside its range): "a stuck state with no
  step, never as a no-op" (R88, D25). Raised by `step` on such a `pc` and by EXPAND's meaning on an index below 16.
  Safe: the model proves nothing of what follows. -/
  | reservedPc (op : BitVec 4) (t : BitVec 6)
  /-- The host writes a byte at an offset that is no `u64` (20_memory.md R51). Raised by the host event `fillMsg` alone.
  Safe. -/
  | offsetOutsideSpace
deriving DecidableEq, Repr

/-- What the model gives no meaning to. -/
inductive Refusal where
  /-- Raised by `exec` for an instruction not modelled yet; no arm does. Safe. -/
  | notModelled (mnemonic : String)
  /-- The host changes `MSG[0..LEN)` while the core is BUSY, which 70_reset_and_hazards.md R240 forbids and 93 U3 says to
  refuse. Raised by the host event `fillMsg` alone. Safe. -/
  | messageChanged
deriving DecidableEq, Repr

/-- No working variable holds a value. -/
def Working.empty : Working :=
  { a := none, b := none, c := none, d := none, e := none, f := none, g := none, h := none }

/-- The function units with zero operands and no result. DESIGN CHOICE (log entry 7): the wires are the
model's own. -/
def FunctionUnit.quiet : FunctionUnit := { x := 0, y := 0, z := 0, n := 0, result := none }

/-- The machine right after reset (10_state.md R38, 70_reset_and_hazards.md R230). MSG_LEN and MSG are the host's and reset
does not touch them: here the port is 0 and nothing is listed (DESIGN CHOICE, log entries 3, 4). -/
def State.reset : State where
  H := Vector.replicate 8 none
  wv := Working.empty
  W := Vector.replicate 64 none
  T := Vector.replicate 72 none
  B := Vector.replicate 64 none
  LEN := none
  L := none
  PADBITS := none
  TLEN := none
  TOTAL := none
  I := none
  CMD := none
  MSG_LEN := 0
  STATUS := .idle
  FAULT_CODE := .none
  DIGEST := none
  OP := 0
  TCTR := 0
  ABORT_PENDING := false
  MSG := []
  draw := 0
  fu := FunctionUnit.quiet

end Sys2Proof.Machine
end

