-- ==== Sys2Proof/Machine/Flags.lean ====
section
/-! DEFINITION. The flag-like state. The hardware has no condition code, carry, overflow, zero or sign flag (10_state.md R33):
"The only flag-like state is STATUS, FAULT_CODE and ABORT_PENDING". Here: the codes the host reads, and what the host reads. -/

namespace Sys2Proof.Machine

/-- The 2-bit code of a STATUS (30_encoding.md R86). -/
def statusBits (s : Status) : BitVec 2 :=
  match s with
  | .idle => 0
  | .busy => 1
  | .done => 2
  | .fault => 3

/-- The 2-bit code of a FAULT_CODE (60_exceptions.md R201). -/
def faultBits (c : FaultCode) : BitVec 2 :=
  match c with
  | .none => 0
  | .inputTooLarge => 1
  | .invariantViolation => 2
  | .malformedConstants => 3

/-- What the host reads on the STATUS port, at any time (10_state.md R30). -/
def State.readStatus (s : State) : BitVec 2 := statusBits s.STATUS

/-- What the host reads on the FAULT_CODE port, at any time (10_state.md R30). -/
def State.readFaultCode (s : State) : BitVec 2 := faultBits s.FAULT_CODE

/-- What the host reads on the DIGEST port: no value unless STATUS is DONE (10_state.md R30, 70_reset_and_hazards.md R244,
93 U4). -/
def State.readDigest (s : State) : Option (Vector Byte 32) := if s.STATUS = .done then s.DIGEST else none

end Sys2Proof.Machine
end

