-- ==== Sys2Proof/Machine/Ops.lean ====
section
/-! DEFINITION. The named operations over memory, `pc` and the registers; fault entry and abandonment; the dispatch step. -/

namespace Sys2Proof.Machine

/-- The byte of the message memory at an offset (10_state.md R35, 20_memory.md R51). -/
def Memory.read : Memory → Nat → Byte
  | [], _ => Config.blankByte
  | (k, c) :: m, off => if k = off then c else Memory.read m off

/-- `m` with a byte set, in canonical form. No operation of the core uses it (20_memory.md R53): the host fills the memory
(44_control.md R175). -/
def Memory.write : Memory → Nat → Byte → Memory
  | [], off, v => if v = Config.blankByte then [] else [(off, v)]
  | (k, c) :: m, off, v =>
    if off < k then (if v = Config.blankByte then (k, c) :: m else (off, v) :: (k, c) :: m)
    else if off = k then (if v = Config.blankByte then m else (off, v) :: m)
    else (k, c) :: Memory.write m off v

/-- `m` with the bytes of a list set at `off`, `off + 1`, …. -/
def Memory.writeList (m : Memory) (off : Nat) : List Byte → Memory
  | [] => m
  | v :: vs => Memory.writeList (Memory.write m off v) (off + 1) vs

/-- The canonical form: offsets strictly rising, each a `u64`, no entry equal to what an unlisted offset reads as. -/
def Memory.wf : Memory → Bool
  | [] => true
  | (k, c) :: m =>
    decide (k < 2 ^ 64) && decide (c ≠ Config.blankByte) && m.all (fun e => decide (k < e.1)) && Memory.wf m

/-- `pc <- (op, t)`, the pair of a micro-operation (00_scope.md R12, 10_state.md R31). -/
def State.goTo (s : State) (i : Instr) : State := { s with OP := i.op, TCTR := i.tctr }

/-- Every data register but H and LEN is left without a value, as after EMIT (10_state.md R40); the counter moves on, so that a
read of one is a free value of its own (log entry 2). -/
def State.forget (s : State) : State :=
  { s with
    wv := Working.empty
    W := Vector.replicate 64 none
    T := Vector.replicate 72 none
    B := Vector.replicate 64 none
    L := none
    PADBITS := none
    TLEN := none
    TOTAL := none
    I := none
    draw := s.draw + 1 }

/-- Every data register but LEN is left without a value, as after a fault or an abandonment (10_state.md R40). -/
def State.forgetAll (s : State) : State := { s.forget with H := Vector.replicate 8 none }

/-- FAULT ENTRY, `raise F(info)` with the code of `F` (60_exceptions.md R205). It is applied to the state before the
operation that raised the fault: "these writes replace every other write" of it. Nothing is saved and there is no
handler; LEN keeps its value. There is no return from a fault (R206): the host's START or reset ends it. -/
def State.raise (s : State) (code : FaultCode) : State :=
  { s.forgetAll.goTo .idle with
    STATUS := .fault
    FAULT_CODE := code
    DIGEST := none
    ABORT_PENDING := false }

/-- Abandonment (44_control.md R172). -/
def State.abandon (s : State) : State :=
  { s.forgetAll.goTo .idle with
    STATUS := .idle
    ABORT_PENDING := false
    FAULT_CODE := .none
    DIGEST := none }

end Sys2Proof.Machine
end

