-- ==== Sys2Proof/Machine/Operands.lean ====
section
/-! DEFINITION. Reading operands: registers (00_scope.md R12), the message (20_memory.md R52), the padded stream
(30_encoding.md R70), the function units' operands (30_encoding.md R83). -/

namespace Sys2Proof.Machine

/-- What a read of a register gives: its value, or, where it holds no value, a free value (DESIGN CHOICE, log entry 1: R12 calls such a
read an error of the model, "never a number", and no run makes one, R39). -/
def held {w : Nat} (s : State) (slot : Slot) (r : Option (BitVec w)) : BitVec w :=
  r.getD (Config.noValue s.draw slot w)

/-- The same for an element of a register array; an index outside the array is no element and holds no value. -/
def heldAt {w n : Nat} (s : State) (slot : Slot) (r : Vector (Option (BitVec w)) n) (i : Nat) : BitVec w :=
  held s slot (r[i]?.join)

/-- `H[i]` (10_state.md R21). -/
def State.readH (s : State) (i : Nat) : Word := heldAt s (.H i) s.H i

/-- `W[t]` (10_state.md R23). -/
def State.readW (s : State) (t : Nat) : Word := heldAt s (.W t) s.W t

/-- `T[j]` (10_state.md R24). -/
def State.readT (s : State) (j : Nat) : Byte := heldAt s (.T j) s.T j

/-- `B[j]` (10_state.md R25). -/
def State.readB (s : State) (j : Nat) : Byte := heldAt s (.B j) s.B j

/-- LEN as an unsigned integer (10_state.md R26). -/
def State.readLEN (s : State) : Nat := (held s .LEN s.LEN).toNat

/-- TOTAL as an unsigned integer (10_state.md R27). -/
def State.readTOTAL (s : State) : Nat := (held s .TOTAL s.TOTAL).toNat

/-- I as an unsigned integer (10_state.md R28). -/
def State.readI (s : State) : Nat := (held s .I s.I).toNat

/-- An unsigned integer written to a 64-bit register. Where it does not fit, which no run reaches (10_state.md R26 to R28), the
spec states no value: a free value is written (DESIGN CHOICE, log entry 12). -/
def State.fit64 (s : State) (slot : Slot) (v : Nat) : U64 :=
  if v < 2 ^ 64 then BitVec.ofNat 64 v else Config.noValue s.draw slot 64

/-- a..h together (10_state.md R22). -/
def State.readVars (s : State) : Vars :=
  { a := held s (.wv 0) s.wv.a
    b := held s (.wv 1) s.wv.b
    c := held s (.wv 2) s.wv.c
    d := held s (.wv 3) s.wv.d
    e := held s (.wv 4) s.wv.e
    f := held s (.wv 5) s.wv.f
    g := held s (.wv 6) s.wv.g
    h := held s (.wv 7) s.wv.h }

/-- a..h holding given values. -/
def Vars.held (v : Vars) : Working :=
  { a := some v.a, b := some v.b, c := some v.c, d := some v.d, e := some v.e, f := some v.f, g := some v.g, h := some v.h }

/-- A byte of `MemRead(MSG, off, n)`. It is defined only below LEN (00_scope.md R12, 20_memory.md R52); "the content of the
memory there … has no effect", so at or beyond LEN the model reads a free value (DESIGN CHOICE, log entry 5). -/
def State.readMSG (s : State) (off : Nat) : Byte :=
  if off < s.readLEN then Memory.read s.MSG off else Config.noValue s.draw (.MSG off) 8

/-- Byte `j` of the padded stream "message ⧺ T" (30_encoding.md R70). -/
def State.paddedByte (s : State) (j : Nat) : Byte :=
  if j < s.readLEN then s.readMSG j else s.readT (j - s.readLEN)

/-- `select(I, LEN)`: which micro-operation fills B for the window at `i` (42_padder.md R128). -/
def selectBlock (i len : Nat) : Instr :=
  if i + 64 ≤ len then .blkMsg else if len ≤ i then .blkTail else .blkMerge

/-- `dispatch()`, the last part of PAD and of NEXT, for the window offset `i` they leave; the order of the four tests is part
of the rule (44_control.md R171). -/
def State.dispatch (s : State) (i : Nat) : State :=
  if s.ABORT_PENDING then s.abandon
  else if i = s.readTOTAL then s.goTo .emit
  else if s.readTOTAL < i + 64 then s.raise .invariantViolation
  else s.goTo (selectBlock i s.readLEN)

end Sys2Proof.Machine
end

