-- ==== Sys2Proof/Machine/Compressor.lean ====
section
/-! DEFINITION. The compressor: schedule, rounds, fold, next window, digest (43_compressor.md). -/

namespace Sys2Proof.Machine

/-- LOADW t: `W[t] <- be32(B[4t], B[4t+1], B[4t+2], B[4t+3])` (43_compressor.md R141). -/
def execLoadw (t : BitVec 4) (s : State) : Host.Outcome State Fault Refusal :=
  .next
    { s.goTo (if t.toNat < 15 then .loadw (t + 1) else .expand 16) with
      W :=
        s.W.setIfInBounds t.toNat
          (some
            (be32 (s.readB (4 * t.toNat)) (s.readB (4 * t.toNat + 1)) (s.readB (4 * t.toNat + 2))
              (s.readB (4 * t.toNat + 3)))) }

/-- EXPAND t: `W[t] <- add32(ssig1(W[t−2]), W[t−7], ssig0(W[t−15]), W[t−16])` (43_compressor.md R142). An index below 16
is a reserved encoding: stuck (30_encoding.md R88; DEDUCED, log entry 9). -/
def execExpand (t : BitVec 6) (s : State) : Host.Outcome State Fault Refusal :=
  if t.toNat < 16 then .fault (.reservedPc (Instr.op (.expand t)) t)
  else
    .next
      { s.goTo (if t.toNat < 63 then .expand (t + 1) else .initv) with
        W :=
          s.W.setIfInBounds t.toNat
            (some
              (expandWord (s.readW (t.toNat - 2)) (s.readW (t.toNat - 7)) (s.readW (t.toNat - 15))
                (s.readW (t.toNat - 16)))) }

/-- INITV: a..h from H (43_compressor.md R144). -/
def execInitv (s : State) : Host.Outcome State Fault Refusal :=
  .next
    { s.goTo (.round 0) with
      wv :=
        Vars.held
          { a := s.readH 0
            b := s.readH 1
            c := s.readH 2
            d := s.readH 3
            e := s.readH 4
            f := s.readH 5
            g := s.readH 6
            h := s.readH 7 } }

/-- ROUND t: one mixing round with `K[t]` and `W[t]` (43_compressor.md R145). -/
def execRound (t : BitVec 6) (s : State) : Host.Outcome State Fault Refusal :=
  .next
    { s.goTo (if t.toNat < 63 then .round (t + 1) else .fold) with
      wv := (roundUpdate s.readVars (Config.kAt t) (s.readW t.toNat)).held }

/-- FOLD: `H[i] <- add32(H[i], v[i])` with `v = (a, …, h)` (43_compressor.md R146). -/
def execFold (s : State) : Host.Outcome State Fault Refusal :=
  .next
    { s.goTo .next with
      H :=
        #v[some (s.readH 0 + s.readVars.a), some (s.readH 1 + s.readVars.b), some (s.readH 2 + s.readVars.c),
          some (s.readH 3 + s.readVars.d), some (s.readH 4 + s.readVars.e), some (s.readH 5 + s.readVars.f),
          some (s.readH 6 + s.readVars.g), some (s.readH 7 + s.readVars.h)] }

/-- `I <- I + 64` (43_compressor.md R147); "`I + 64` cannot wrap" in a run (10_state.md R28, log entry 12). -/
def State.advance (s : State) : State := { s with I := some (s.fit64 .I (s.readI + 64)) }

/-- NEXT: the step to the next window, then the dispatch "with the new I" (43_compressor.md R147). -/
def execNext (s : State) : Host.Outcome State Fault Refusal := .next (s.advance.dispatch s.advance.readI)

/-- `DIGEST[4i + k] <- byte_be32(H[i], k)` (43_compressor.md R148, 30_encoding.md R75). -/
@[irreducible] def State.hashBytes (s : State) : Vector Byte 32 :=
  Vector.ofFn fun j : Fin 32 => byteBe32 (s.readH (j.val / 4)) (j.val % 4)

/-- EMIT: the digest big-endian, STATUS DONE and `pc` IDLE together; H keeps its value, the other data registers lose theirs
(43_compressor.md R148, 30_encoding.md R75, 10_state.md R40). -/
def execEmit (s : State) : Host.Outcome State Fault Refusal :=
  .next
    { s.forget.goTo .idle with
      DIGEST := some s.hashBytes
      STATUS := .done }

end Sys2Proof.Machine
end

