-- ==== Sys2Proof/Machine/Control.lean ====
section
/-! DEFINITION. The host commands and the resting micro-operation (44_control.md R160 to R164). That a command is taken from
the port once is the step's part (Machine/Fetch.lean). -/

namespace Sys2Proof.Machine

/-- NONE: "no state changes in any STATUS" (44_control.md R163). -/
def execCmdNone (s : State) : Host.Outcome State Fault Refusal := .next s

/-- The reserved command 3 acts exactly as NONE (44_control.md R163, 30_encoding.md R88). -/
def execCmdReserved (s : State) : Host.Outcome State Fault Refusal := .next s

/-- What an accepted START of an admitted length leaves (44_control.md R161, 10_state.md R39). -/
def State.begin (s : State) : State :=
  { s.goTo .pad with
    FAULT_CODE := .none
    DIGEST := none
    ABORT_PENDING := false
    LEN := some s.MSG_LEN
    H := Config.HINIT.map some
    I := some 0
    STATUS := .busy }

/-- START (44_control.md R161): ignored while BUSY; InputTooLarge when `MSG_LEN >= 2^61` (60_exceptions.md R202). -/
def execStart (s : State) : Host.Outcome State Fault Refusal :=
  .next
    (if s.STATUS = .busy then s
     else if 2 ^ 61 ≤ s.MSG_LEN.toNat then s.raise .inputTooLarge
     else s.begin)

/-- ABORT: recorded while BUSY, ignored otherwise (44_control.md R162). -/
def execAbort (s : State) : Host.Outcome State Fault Refusal :=
  .next (if s.STATUS = .busy then { s with ABORT_PENDING := true } else s)

/-- IDLE: "the core does nothing"; the next `pc` is (IDLE, 0) again (44_control.md R164, R170). -/
def execIdle (s : State) : Host.Outcome State Fault Refusal := .next s

end Sys2Proof.Machine
end

