-- ==== Sys2Proof/Machine/Padder.lean ====
section
/-! DEFINITION. The padder: PAD and the block source selection (42_padder.md). -/

namespace Sys2Proof.Machine

/-- The tail buffer PAD leaves for a message of `len` bytes with `l` in L: `T[0 .. TLEN−1]`, and no value from TLEN on
(42_padder.md R120). -/
@[irreducible] def padTail (len : Nat) (l : U64) : Vector (Option Byte) 72 :=
  Vector.ofFn fun j : Fin 72 => if j.val < tailLen len then some (tailByte len l j.val) else none

/-- The block buffer filled with 64 bytes (10_state.md R25). -/
@[irreducible] def fullBlock (byte : Nat → Byte) : Vector (Option Byte) 64 :=
  Vector.ofFn fun j : Fin 64 => some (byte j.val)

/-- What PAD writes for a message of `len` bytes (42_padder.md R120): L, PADBITS, TLEN, `T[0..71]` (no value from TLEN
on), TOTAL. The length bytes of T are those of L (30_encoding.md R73). `byte_be64` is defined for a `u64` alone (00_scope.md R11), so
where `8 × LEN` is none, with LEN of 2^61 or more, L holds a free value and the length bytes are its bytes (DESIGN CHOICE, log
entry 12). -/
def State.padWrites (s : State) (len : Nat) : State :=
  { s with
    L := some (s.fit64 .L (8 * len))
    PADBITS := some (BitVec.ofNat 9 (padBits (8 * len)))
    TLEN := some (BitVec.ofNat 7 (tailLen len))
    T := padTail len (s.fit64 .L (8 * len))
    TOTAL := some (s.fit64 .TOTAL (len + tailLen len))
    draw := s.draw + 1 }

/-- PAD (42_padder.md R120): the defensive check of the post-condition, then the dispatch "with I = 0". -/
def execPad (s : State) : Host.Outcome State Fault Refusal :=
  .next
    (if (8 * s.readLEN + 8 * tailLen s.readLEN) % 512 ≠ 0 then s.raise .invariantViolation
     else (s.padWrites s.readLEN).dispatch 0)

/-- B filled byte by byte, then the first LOADW (42_padder.md R125 to R127). -/
def State.fillBlock (s : State) (byte : Nat → Byte) : State :=
  { s.goTo (.loadw 0) with B := fullBlock byte }

/-- BLK_MSG: `B[j] <- MSG[I + j]` (42_padder.md R125). -/
def execBlkMsg (s : State) : Host.Outcome State Fault Refusal := .next (s.fillBlock fun j => s.readMSG (s.readI + j))

/-- BLK_TAIL: `B[j] <- T[I − LEN + j]` (42_padder.md R126). A negative index, which the precondition `I >= LEN`
excludes, is no element of T and reads a free value (DESIGN CHOICE, log entry 13). -/
def execBlkTail (s : State) : Host.Outcome State Fault Refusal :=
  .next
    (s.fillBlock fun j =>
      if s.readLEN ≤ s.readI + j then s.readT (s.readI + j - s.readLEN)
      else Config.noValue s.draw (.B j) 8)

/-- BLK_MERGE: with `r = LEN − I`, `B[j] <- MSG[I + j]` for `j < r` and `B[j] <- T[j − r]` from there (42_padder.md R127);
`j < r` is `I + j < LEN` and `j − r` is `I + j − LEN`. -/
def execBlkMerge (s : State) : Host.Outcome State Fault Refusal :=
  .next
    (s.fillBlock fun j =>
      if s.readI + j < s.readLEN then s.readMSG (s.readI + j) else s.readT (s.readI + j - s.readLEN))

end Sys2Proof.Machine
end

