-- ==== Sys2Proof/Machine/Primitives.lean ====
section
/-! DEFINITION. The bit primitives as operations (format F, 30_encoding.md R87): each evaluates its function on the operand wires
of the function units and drives the result wire (DESIGN CHOICE, log entry 7). They read no register, write none, set no flag and raise
nothing (41_bit_primitives.md). EXPAND and ROUND use the same functions directly. -/

namespace Sys2Proof.Machine

/-- The result wire of the function units driven. -/
def State.setResult (s : State) (v : Word) : State := { s with fu := { s.fu with result := some v } }

/-- rotr (41_bit_primitives.md R110). -/
def execRotr (s : State) : Host.Outcome State Fault Refusal := .next (s.setResult (rotr s.fu.x s.fu.n))

/-- shr (41_bit_primitives.md R111). -/
def execShr (s : State) : Host.Outcome State Fault Refusal := .next (s.setResult (shr s.fu.x s.fu.n))

/-- ch (41_bit_primitives.md R112). -/
def execCh (s : State) : Host.Outcome State Fault Refusal := .next (s.setResult (ch s.fu.x s.fu.y s.fu.z))

/-- maj (41_bit_primitives.md R113). -/
def execMaj (s : State) : Host.Outcome State Fault Refusal := .next (s.setResult (maj s.fu.x s.fu.y s.fu.z))

/-- bsig0 (41_bit_primitives.md R114). -/
def execBsig0 (s : State) : Host.Outcome State Fault Refusal := .next (s.setResult (bsig0 s.fu.x))

/-- bsig1 (41_bit_primitives.md R115). -/
def execBsig1 (s : State) : Host.Outcome State Fault Refusal := .next (s.setResult (bsig1 s.fu.x))

/-- ssig0 (41_bit_primitives.md R116). -/
def execSsig0 (s : State) : Host.Outcome State Fault Refusal := .next (s.setResult (ssig0 s.fu.x))

/-- ssig1 (41_bit_primitives.md R117). -/
def execSsig1 (s : State) : Host.Outcome State Fault Refusal := .next (s.setResult (ssig1 s.fu.x))

end Sys2Proof.Machine
end

