-- ==== Sys2Proof/Machine/Dispatch.lean ====
section
/-! DEFINITION. The dispatch of an operation to its meaning, one arm per constructor of Instr. -/

namespace Sys2Proof.Machine

def exec (i : Instr) (s : State) : Host.Outcome State Fault Refusal :=
  match i with
  | .cmdNone => Sys2Proof.Machine.execCmdNone s
  | .start => Sys2Proof.Machine.execStart s
  | .abort => Sys2Proof.Machine.execAbort s
  | .cmdReserved => Sys2Proof.Machine.execCmdReserved s
  | .idle => Sys2Proof.Machine.execIdle s
  | .pad => Sys2Proof.Machine.execPad s
  | .blkMsg => Sys2Proof.Machine.execBlkMsg s
  | .blkTail => Sys2Proof.Machine.execBlkTail s
  | .blkMerge => Sys2Proof.Machine.execBlkMerge s
  | .loadw t => Sys2Proof.Machine.execLoadw t s
  | .expand t => Sys2Proof.Machine.execExpand t s
  | .initv => Sys2Proof.Machine.execInitv s
  | .round t => Sys2Proof.Machine.execRound t s
  | .fold => Sys2Proof.Machine.execFold s
  | .next => Sys2Proof.Machine.execNext s
  | .emit => Sys2Proof.Machine.execEmit s
  | .rotr => Sys2Proof.Machine.execRotr s
  | .shr => Sys2Proof.Machine.execShr s
  | .ch => Sys2Proof.Machine.execCh s
  | .maj => Sys2Proof.Machine.execMaj s
  | .bsig0 => Sys2Proof.Machine.execBsig0 s
  | .bsig1 => Sys2Proof.Machine.execBsig1 s
  | .ssig0 => Sys2Proof.Machine.execSsig0 s
  | .ssig1 => Sys2Proof.Machine.execSsig1 s

end Sys2Proof.Machine
end

