-- ==== Sys2Proof/Machine/Fetch.lean ====
section
/-! DEFINITION. Where the machine's next operation comes from, and how a word is placed there. The core fetches no instructions
(10_state.md R31): a command comes from the CMD port and a micro-operation from `pc`. A primitive comes from nowhere: "they are not
issued as steps and never appear in `pc`" (30_encoding.md R83). -/

namespace Sys2Proof.Machine

/-- The next operation's format and word. A presented command is taken before the next micro-operation (it lands between two,
44_control.md R160; DESIGN CHOICE, log entry 6); else, "while STATUS = BUSY", the micro-operation named by `pc` is performed
(44_control.md R170); otherwise the core rests (R164). -/
def State.fetch (s : State) : Format × Nat :=
  match s.CMD with
  | some c => (.c, c.toNat)
  | none => (.u, if s.STATUS = .busy then microWord s.OP s.TCTR else encode .idle)

/-- The state once that operation has been taken: a presented value is "one command, taken once" (10_state.md R29). -/
def State.taken (s : State) : State := { s with CMD := none }

/-- `s` with a word of a format placed where the next step fetches. A micro-operation other than IDLE needs STATUS = BUSY to
be fetched (44_control.md R170). A primitive has no such place (30_encoding.md R80, R83): the state stays as it is. -/
def State.place (s : State) (fmt : Format) (w : Nat) : State :=
  match fmt with
  | .c => { s with CMD := some (BitVec.ofNat 2 w) }
  | .f => s
  | .u =>
    { s with
      CMD := none
      OP := BitVec.ofNat 4 (w / 64)
      TCTR := BitVec.ofNat 6 (w % 64)
      STATUS := if w = encode .idle then s.STATUS else .busy }

/-- The fault of a word that is no operation. -/
def rejectFault (r : Reject) (s : State) : Fault :=
  match r with
  | .wordTooWide _ _ => .reservedPc s.OP s.TCTR
  | .reservedOp op t => .reservedPc op t
  | .indexOutOfRange op t => .reservedPc op t

/-- `s` with a word of the operation table placed where the next step fetches (DESIGN CHOICE, log entries 8, 15). -/
def State.placeTableWord (s : State) (nbits w : Nat) : State :=
  match tableFormat nbits w with
  | none => s
  | some fmt => s.place fmt w

end Sys2Proof.Machine
end

