-- ==== Sys2Proof/Machine/Step.lean ====
section
/-! DEFINITION. One step of the machine: the operation that is next, taken and executed. -/

namespace Sys2Proof.Machine

/-- One atomic step (00_scope.md R7): a host command, or a micro-operation. A `pc` that is no micro-operation is
stuck (30_encoding.md R88). -/
def step (s : State) : Host.Outcome State Fault Refusal :=
  match decode s.fetch.1 s.fetch.2 with
  | .ok i => exec i s.taken
  | .reject r => .fault (rejectFault r s)

/-- `s` with the word of the operation table placed where `step` fetches its next operation. -/
def State.withFetchWord (s : State) (nbits w : Nat) : State := s.placeTableWord nbits w

end Sys2Proof.Machine
end

