-- ==== Sys2Proof/Machine/Digest.lean ====
section
/-! DEFINITION. The digest as a function of the message (43_compressor.md R143, R149, R150, 44_control.md R176): the reference
the machine's computations are compared with. -/

namespace Sys2Proof.Machine

/-- The schedule words `prev` (`W[t−1]` first, `t` of them) with `W[t]` put before them: from the block for `t < 16`, from the
words at distances 2, 7, 15, 16 from there on (43_compressor.md R143). -/
def scheduleStep (blk : Nat → Byte) (t : Nat) (prev : List Word) : List Word :=
  (if t < 16 then be32 (blk (4 * t)) (blk (4 * t + 1)) (blk (4 * t + 2)) (blk (4 * t + 3))
   else expandWord (prev.getD 1 0) (prev.getD 6 0) (prev.getD 14 0) (prev.getD 15 0)) ::
    prev

/-- The first `k` schedule words of a block, the newest first (43_compressor.md R143). -/
def scheduleRev (blk : Nat → Byte) : Nat → List Word
  | 0 => []
  | k + 1 => scheduleStep blk k (scheduleRev blk k)

/-- `W[t]` of a block (43_compressor.md R143). -/
def scheduleWord (blk : Nat → Byte) (t : Nat) : Word := (scheduleRev blk (t + 1)).getD 0 0

/-- The working variables after rounds `0 .. t−1`, from the hash words `hin` (43_compressor.md R144, R145). -/
def roundsUpTo (hin : Vector Word 8) (blk : Nat → Byte) : Nat → Vars
  | 0 => { a := hin[0], b := hin[1], c := hin[2], d := hin[3], e := hin[4], f := hin[5], g := hin[6], h := hin[7] }
  | t + 1 => roundUpdate (roundsUpTo hin blk t) (Config.kAt (BitVec.ofNat 6 t)) (scheduleWord blk t)

/-- The hash words `hin` with the working variables added, element by element (43_compressor.md R146). -/
def foldInto (hin : Vector Word 8) (v : Vars) : Vector Word 8 :=
  #v[hin[0] + v.a, hin[1] + v.b, hin[2] + v.c, hin[3] + v.d, hin[4] + v.e, hin[5] + v.f, hin[6] + v.g, hin[7] + v.h]

/-- `compress(Hin, blk)` (43_compressor.md R149). -/
def compress (hin : Vector Word 8) (blk : Nat → Byte) : Vector Word 8 := foldInto hin (roundsUpTo hin blk 64)

/-- Byte `j` of the padded stream of the message `m` (30_encoding.md R70): the message, then its tail. -/
def streamByte (m : List Byte) (j : Nat) : Byte :=
  if j < m.length then m.getD j 0 else tailByte m.length (bitLength m.length) (j - m.length)

/-- The number of blocks of a message of `len` bytes, `TOTAL/64` (43_compressor.md R150). -/
def blockCount (len : Nat) : Nat := (len + tailLen len) / 64

/-- `H^(n)`, the hash state after `n` blocks (43_compressor.md R150). -/
def hashAfter (m : List Byte) : Nat → Vector Word 8
  | 0 => Config.HINIT
  | n + 1 => compress (hashAfter m n) fun j => streamByte m (64 * n + j)

/-- The digest bytes of eight hash words (30_encoding.md R75). -/
def digestBytes (h : Vector Word 8) : Vector Byte 32 :=
  Vector.ofFn fun j : Fin 32 => byteBe32 (h[j.val / 4]'(by omega)) (j.val % 4)

/-- `sha256(m)` (44_control.md R176). -/
def sha256 (m : List Byte) : Vector Byte 32 := digestBytes (hashAfter m (blockCount m.length))

end Sys2Proof.Machine
end

