-- ==== Sys2Proof/Machine/HostPort.lean ====
section
/-! DEFINITION. What the host does (44_control.md R175, 30_encoding.md R90): reset, filling the message memory, driving MSG_LEN,
presenting commands; and traces, in which any host action may stand between any two steps of the core (44_control.md R160). -/

namespace Sys2Proof.Machine

/-- The reset signal (70_reset_and_hazards.md R230, R231): the reset state in any state; MSG and MSG_LEN are the host's and
stay (10_state.md R38). A command that waits is taken as NONE (R38): none waits
afterwards. The free values of a register without a value are drawn anew (DESIGN CHOICE, log entry 2), and the function units,
which are no state of the core, stay (log entry 7). -/
def State.assertReset (s : State) : State :=
  { State.reset with MSG := s.MSG, MSG_LEN := s.MSG_LEN, draw := s.draw + 1, fu := s.fu }

/-- Whether writing `bytes` at offset `off` on would change a byte of `MSG[0..LEN)`. -/
def State.changesMessage (s : State) : Nat → List Byte → Bool
  | _, [] => false
  | off, v :: vs =>
    (decide (off < s.readLEN) && decide (Memory.read s.MSG off ≠ v)) || State.changesMessage s (off + 1) vs

/-- The host's events (30_encoding.md R90), and `core`, one step of the machine. -/
inductive Event where
  /-- The reset signal. -/
  | reset
  /-- The message memory filled from offset 0 on. -/
  | fillMsg (bytes : List Byte)
  /-- The MSG_LEN port driven. -/
  | msgLen (n : U64)
  /-- A command presented on CMD. -/
  | command (c : BitVec 2)
  /-- The machine performs its next step. -/
  | core
deriving DecidableEq, Repr

/-- The host fills the message memory (44_control.md R175). While BUSY it must not change `MSG[0..LEN)`
(70_reset_and_hazards.md R240): refused (93 U3). -/
def State.fillMsg (s : State) (bytes : List Byte) : Host.Outcome State Fault Refusal :=
  if 2 ^ 64 < bytes.length then .fault .offsetOutsideSpace
  else if s.STATUS = .busy ∧ s.changesMessage 0 bytes = true then .refused .messageChanged
  else .next { s with MSG := Memory.writeList s.MSG 0 bytes }

/-- The host presents a value on CMD: "each value the host presents is one command, taken once" (10_state.md R29). A command that
still waits on the port is taken first, by the step that takes it, so that none is lost and each is taken in its turn
(44_control.md R160; DESIGN CHOICE, log entry 6). -/
def State.present (s : State) (c : BitVec 2) : Host.Outcome State Fault Refusal :=
  match s.CMD with
  | none => .next { s with CMD := some c }
  | some _ =>
    match step s with
    | .next t => .next { t with CMD := some c }
    | .fault r => .fault r
    | .refused r => .refused r

/-- What one event does. -/
def Event.apply (e : Event) (s : State) : Host.Outcome State Fault Refusal :=
  match e with
  | .reset => .next s.assertReset
  | .fillMsg bytes => s.fillMsg bytes
  | .msgLen n => .next { s with MSG_LEN := n }
  | .command c => s.present c
  | .core => step s

/-- A trace: events one after another, stopping at the first fault or refusal. -/
def runTrace : List Event → State → Host.Outcome State Fault Refusal
  | [], s => .next s
  | e :: es, s =>
    match e.apply s with
    | .next s' => runTrace es s'
    | .fault r => .fault r
    | .refused r => .refused r

end Sys2Proof.Machine
end

