-- ==== Sys2Proof/Machine/Sequence.lean ====
section
/-! DEFINITION. The pseudo-operations (30_encoding.md R91) and the sequence of a whole computation (42_padder.md R129,
44_control.md R174), as lists of micro-operations, and what it is for the core to perform such a list. -/

namespace Sys2Proof.Machine

/-- `SCHEDULE`: LOADW 0 .. LOADW 15, EXPAND 16 .. EXPAND 63 (30_encoding.md R91). -/
def scheduleOps : List Instr :=
  (List.range 16).map (fun t => .loadw (BitVec.ofNat 4 t)) ++ (List.range 48).map fun t => .expand (BitVec.ofNat 6 (16 + t))

/-- `ROUNDS`: ROUND 0 .. ROUND 63 (30_encoding.md R91). -/
def roundOps : List Instr := (List.range 64).map fun t => .round (BitVec.ofNat 6 t)

/-- `COMPRESS` (30_encoding.md R91). -/
def compressOps : List Instr := scheduleOps ++ [.initv] ++ roundOps ++ [.fold]

/-- `BLOCK <kind>` (30_encoding.md R91). -/
def blockOps (kind : Instr) : List Instr := kind :: compressOps ++ [.next]

/-- The number of blocks of a message of `len` bytes, by the residue of the length (42_padder.md R129). -/
def windowCount (len : Nat) : Nat := if len % 64 ≤ 55 then len / 64 + 1 else len / 64 + 2

/-- The block operation of window `n`, by the place of the window among the blocks (44_control.md R174). -/
def blockKind (len n : Nat) : Instr :=
  if n < len / 64 then .blkMsg else if n = len / 64 ∧ len % 64 ≠ 0 then .blkMerge else .blkTail

/-- The micro-operations of a computation that is not aborted, from the accepted START on (44_control.md R174). -/
def microSequence (len : Nat) : List Instr :=
  .pad :: ((List.range (windowCount len)).flatMap fun n => blockOps (blockKind len n)) ++ [.emit]

/-- The core performs the listed micro-operations one after another, from `s` to `t`: each is the one `pc` names in a BUSY
core when its step comes (44_control.md R170). -/
def Performs (s : State) (ops : List Instr) (t : State) : Prop :=
  match ops with
  | [] => s = t
  | i :: is => s.STATUS = .busy ∧ decodeU s.OP s.TCTR = .ok i ∧ ∃ u, step s = .next u ∧ Performs u is t

end Sys2Proof.Machine
end

