-- ==== Sys2Proof/Safety.lean ====
section
/-! DEFINITION. What a good state is, and what the spec says certain events leave, in the terms the statements use. -/

namespace Sys2Proof.Machine

/-- The first `k` elements of a register array hold a value. -/
def FirstHeld {α : Type} {n : Nat} (r : Vector (Option α) n) (k : Nat) : Prop :=
  ∀ i, i < k → ∃ v, r[i]? = some (some v)

/-- All eight working variables hold a value. -/
def Working.allHeld (wv : Working) : Prop := ∃ v : Vars, wv = v.held

/-- The ports and the sequencer agree (10_state.md R30, R31, R32): while BUSY `pc` names a micro-operation other than IDLE, else
it is (IDLE, 0); FAULT_CODE is none unless STATUS is FAULT, and never malformedConstants; DIGEST is valid exactly in DONE;
an ABORT is pending only while BUSY or, recorded too late, in DONE (44_control.md R162). -/
structure ControlInv (s : State) : Prop where
  busyPc : s.STATUS = .busy → ∃ i, decodeU s.OP s.TCTR = .ok i ∧ i ≠ .idle
  restPc : s.STATUS ≠ .busy → s.OP = 0 ∧ s.TCTR = 0
  faultCode : s.FAULT_CODE = .none ↔ s.STATUS ≠ .fault
  noMalformed : s.FAULT_CODE ≠ .malformedConstants
  digest : s.DIGEST.isSome = true ↔ s.STATUS = .done
  pending : s.ABORT_PENDING = true → s.STATUS = .busy ∨ s.STATUS = .done

/-- LEN holds an admitted length and H a hash state (44_control.md R161). -/
def Admitted (s : State) (n : U64) : Prop := s.LEN = some n ∧ n.toNat < 2 ^ 61 ∧ FirstHeld s.H 8

/-- PAD has run for the length `n` (42_padder.md R120). -/
def Padded (s : State) (n : U64) : Prop :=
  Admitted s n ∧
    s.L = some (BitVec.ofNat 64 (8 * n.toNat)) ∧
    s.PADBITS = some (BitVec.ofNat 9 (padBits (8 * n.toNat))) ∧
    s.TLEN = some (BitVec.ofNat 7 (tailLen n.toNat)) ∧
    s.TOTAL = some (BitVec.ofNat 64 (n.toNat + tailLen n.toNat)) ∧
    ∀ j, j < tailLen n.toNat → s.T[j]? = some (some (tailByte n.toNat (bitLength n.toNat) j))

/-- I is the offset of a whole window of the padded stream (10_state.md R28, 60_exceptions.md R213). -/
def InWindow (n i : U64) : Prop := i.toNat % 64 = 0 ∧ i.toNat + 64 ≤ n.toNat + tailLen n.toNat

/-- What holds when a micro-operation is next: every register it and its successors in the block read holds a value of this
computation (10_state.md R39). -/
def Ready (s : State) (n i : U64) : Instr → Prop
  | .pad => Admitted s n ∧ i = 0
  | .blkMsg => Padded s n ∧ InWindow n i ∧ selectBlock i.toNat n.toNat = .blkMsg
  | .blkTail => Padded s n ∧ InWindow n i ∧ selectBlock i.toNat n.toNat = .blkTail
  | .blkMerge => Padded s n ∧ InWindow n i ∧ selectBlock i.toNat n.toNat = .blkMerge
  | .loadw t => Padded s n ∧ InWindow n i ∧ FirstHeld s.B 64 ∧ FirstHeld s.W t.toNat
  | .expand t => Padded s n ∧ InWindow n i ∧ FirstHeld s.W t.toNat
  | .initv => Padded s n ∧ InWindow n i ∧ FirstHeld s.W 64
  | .round _ => Padded s n ∧ InWindow n i ∧ FirstHeld s.W 64 ∧ s.wv.allHeld
  | .fold => Padded s n ∧ InWindow n i ∧ s.wv.allHeld
  | .next => Padded s n ∧ InWindow n i
  | .emit => Padded s n ∧ i.toNat = n.toNat + tailLen n.toNat
  | .cmdNone | .start | .abort | .cmdReserved | .idle | .rotr | .shr | .ch | .maj | .bsig0 | .bsig1 | .ssig0
  | .ssig1 => True

/-- The invariant of the machine: the control state is consistent, and while BUSY what the next micro-operation needs is there.
It rules out every read of a register without a value and both defensive faults (10_state.md R39, 60_exceptions.md R213). -/
structure Inv (s : State) : Prop where
  control : ControlInv s
  ready :
    s.STATUS = .busy →
      ∃ (n i : U64) (op : Instr),
        decodeU s.OP s.TCTR = .ok op ∧ s.LEN = some n ∧ s.I = some i ∧ Ready s n i op

/-- The data registers that lose their value when a computation ends (10_state.md R40), H apart. -/
def DataForgotten (t : State) : Prop :=
  t.wv = Working.empty ∧
    t.W = Vector.replicate 64 none ∧
    t.T = Vector.replicate 72 none ∧
    t.B = Vector.replicate 64 none ∧
    t.L = none ∧ t.PADBITS = none ∧ t.TLEN = none ∧ t.TOTAL = none ∧ t.I = none

/-- The host's ports, its memory and the function units are as they were. -/
def HostSideKept (s t : State) : Prop :=
  t.CMD = s.CMD ∧ t.MSG_LEN = s.MSG_LEN ∧ t.MSG = s.MSG ∧ t.fu = s.fu

/-- What fault entry leaves (60_exceptions.md R205), `s` being the state before the operation that raised the fault. -/
def FaultEntered (code : FaultCode) (s t : State) : Prop :=
  t.STATUS = .fault ∧ t.FAULT_CODE = code ∧ t.DIGEST = none ∧ t.ABORT_PENDING = false ∧ t.OP = 0 ∧ t.TCTR = 0 ∧
    t.H = Vector.replicate 8 none ∧ DataForgotten t ∧ t.LEN = s.LEN ∧ HostSideKept s t

/-- What an abandonment leaves (44_control.md R172). -/
def Abandoned (s t : State) : Prop :=
  t.STATUS = .idle ∧ t.FAULT_CODE = .none ∧ t.DIGEST = none ∧ t.ABORT_PENDING = false ∧ t.OP = 0 ∧ t.TCTR = 0 ∧
    t.H = Vector.replicate 8 none ∧ DataForgotten t ∧ t.LEN = s.LEN ∧ HostSideKept s t

/-- No command waits to be taken: the next step is the core's own. -/
def Undisturbed (s : State) : Prop := s.CMD = none

/-- The core takes the commands `cs` one after another, each once and each as the command it encodes (10_state.md R29, 44_control.md R160),
and is then in the state `t`. -/
def TakesInTurn : List (BitVec 2) → State → State → Prop
  | [], s, t => s = t
  | c :: cs, s, t => ∃ u, exec (decodeC c) s = .next u ∧ TakesInTurn cs u t

end Sys2Proof.Machine
end

