-- ==== Sys2Proof/Certificates/Slice0/Obligations.lean ====
section
/-! DEFINITION. The statements for the provers. Each docstring names the rule of the spec it formalises. A statement about a register
that holds no value (`none`) is a statement about the spec's own *no value* (00_scope.md R12). -/

open Sys2Proof Sys2Proof.Machine

/-! ## Encoding -/

/-- DECODE AND ENCODE AGREE: every operation, at every value of its operand the encoding admits, is what its own word decodes
to (30_encoding.md R84, R85, R87). -/
def Obligations.DecodeOfEncodeIsIdentity : Prop :=
  ∀ i : Instr, i.wellFormed = true → decode i.format (encode i) = .ok i

/-- A word has one meaning: what decodes is an operation of that format, well formed, and encodes back to the word. -/
def Obligations.EncodeOfDecodeIsIdentity : Prop :=
  ∀ (fmt : Format) (w : Nat) (i : Instr),
    decode fmt w = .ok i → i.format = fmt ∧ encode i = w ∧ i.wellFormed = true

/-- 30_encoding.md R85, R88: exactly the pairs `(OP, TCTR)` with OP in 12..15, LOADW with an index above 15, EXPAND with an
index below 16, or a nonzero TCTR beside an OP that takes none are reserved, and a BUSY core whose `pc` is one of them has
no step; the model's form of that is the fault `reservedPc` (log entry 9). Every other pair has a step also where a register the
operation reads holds no value, a read 00_scope.md R12 calls an error of the model: that it completes there is the model's
choice (log entry 1), as it is outside a block operation's precondition (log entries 13, 5) and where PAD or NEXT has a number
that does not fit its register (log entry 12). -/
def Obligations.ReservedPcIsStuck : Prop :=
  ∀ s : State,
    ((12 ≤ s.OP.toNat ∨ (s.OP.toNat = 5 ∧ 16 ≤ s.TCTR.toNat) ∨ (s.OP.toNat = 6 ∧ s.TCTR.toNat < 16) ∨
          (s.OP.toNat ≠ 5 ∧ s.OP.toNat ≠ 6 ∧ s.OP.toNat ≠ 8 ∧ s.TCTR.toNat ≠ 0)) →
        s.STATUS = .busy → Undisturbed s → step s = .fault (.reservedPc s.OP s.TCTR)) ∧
      (¬(12 ≤ s.OP.toNat ∨ (s.OP.toNat = 5 ∧ 16 ≤ s.TCTR.toNat) ∨ (s.OP.toNat = 6 ∧ s.TCTR.toNat < 16) ∨
          (s.OP.toNat ≠ 5 ∧ s.OP.toNat ≠ 6 ∧ s.OP.toNat ≠ 8 ∧ s.TCTR.toNat ≠ 0)) →
        s.STATUS = .busy → Undisturbed s → ∃ t, step s = .next t)

/-- Words written out from the tables of 30_encoding.md R84, R85, R87. -/
def Obligations.SampleWordsDecode : Prop :=
  decode .c 0b01 = .ok .start ∧ decode .c 0b10 = .ok .abort ∧ decode .u 0b0001000000 = .ok .pad ∧
    decode .u 0b0101001111 = .ok (.loadw 15) ∧ decode .u 0b0110010000 = .ok (.expand 16) ∧
    decode .u 0b1000111111 = .ok (.round 63) ∧ decode .u 0b1011000000 = .ok .emit ∧ decode .f 0b111 = .ok .ssig1

/-! ## One step -/

/-- A STEP RUNS THE DECODED OPERATION, with what the step adds around `exec`: a presented command is taken from the port once
(10_state.md R29); else a BUSY core runs the micro-operation of `pc`; otherwise it rests (44_control.md R164, R170). That a command
which waits comes before the next micro-operation is the model's choice (log entry 6). -/
def Obligations.StepRunsDecodedOperation : Prop :=
  ∀ s : State,
    (∀ c, s.CMD = some c → step s = exec (decodeC c) { s with CMD := none }) ∧
      (∀ i, Undisturbed s → s.STATUS = .busy → decodeU s.OP s.TCTR = .ok i → step s = exec i s) ∧
      (Undisturbed s → s.STATUS ≠ .busy → step s = .next s)

/-- A word of the operation table placed by `withFetchWord` is the operation the very next step runs; a word that names a
primitive has no place a step fetches from (30_encoding.md R80, R83), and placing it changes nothing. How a width selects a
format, and what placing is, are the model's choice (log entries 8, 15). -/
def Obligations.PlacedTableWordRunsNext : Prop :=
  ∀ (s : State) (nbits w : Nat) (i : Instr),
    decodeTableWord nbits w = some i →
      (i.format ≠ .f → step (s.withFetchWord nbits w) = exec i (s.withFetchWord nbits w).taken) ∧
        (i.format = .f → s.withFetchWord nbits w = s)

/-- 30_encoding.md R83, R80: a bit primitive is not issued as a step and never appears in `pc`: what a step fetches is never of
format F, no command and no pair of `pc` decodes to a primitive, and no event, a step of the core included, reads or writes the
function units' wires, the model's own (log entry 7), so that they keep their values along every trace. -/
def Obligations.PrimitivesAreNeverIssuedAsSteps : Prop :=
  ∀ (s : State) (c : BitVec 2) (op : BitVec 4) (x : BitVec 6),
    s.fetch.1 ≠ .f ∧ (decodeC c).format ≠ .f ∧ (∀ i, decodeU op x = .ok i → i.format ≠ .f) ∧
      ∀ (e : Event) (t : State), e.apply s = .next t → t.fu = s.fu

/-- Every well-formed operation answers a next state in every state, those in which a register it reads holds no value
included: there is no path on which a well-formed operation stops. EXPAND with an index below 16 is a reserved word and
stops by name: the fault `reservedPc` is the model's form of the stuck state of 30_encoding.md R88 (log entry 9). That the others
complete also in states no run reaches is the model's choice: where a register they read holds no value (log entry 1), where a
block operation's precondition fails (log entry 13) or it reads the message at or beyond LEN (log entry 5; 00_scope.md R12 leaves
that read undefined), and where PAD or NEXT has a number that does not fit its register (log entry 12). -/
def Obligations.WellFormedOperationAlwaysCompletes : Prop :=
  ∀ (i : Instr) (s : State),
    (i.wellFormed = true → ∃ t, exec i s = .next t) ∧
      (i.wellFormed = false → ∃ op t, exec i s = .fault (.reservedPc op t))

/-! ## Host commands -/

/-- 44_control.md R163: NONE (code 0) and the reserved code 3 change nothing, in any STATUS. -/
def Obligations.NoneAndReservedCommandChangeNothing : Prop :=
  decodeC 0 = .cmdNone ∧ decodeC 3 = .cmdReserved ∧
    ∀ s : State, exec .cmdNone s = .next s ∧ exec .cmdReserved s = .next s

/-- 44_control.md R161: START is ignored while BUSY; else InputTooLarge at 2^61 bytes or more; else it latches LEN, loads
H from HINIT, clears I, FAULT_CODE, DIGEST and ABORT_PENDING, and sets STATUS and `pc`; nothing else changes. -/
def Obligations.StartBeginsComputation : Prop :=
  ∀ s : State,
    (s.STATUS = .busy → exec .start s = .next s) ∧
      (s.STATUS ≠ .busy → 2 ^ 61 ≤ s.MSG_LEN.toNat →
        ∃ t, exec .start s = .next t ∧ FaultEntered .inputTooLarge s t) ∧
      (s.STATUS ≠ .busy → s.MSG_LEN.toNat < 2 ^ 61 →
        exec .start s =
          .next
            { s with
              FAULT_CODE := .none
              DIGEST := none
              ABORT_PENDING := false
              LEN := some s.MSG_LEN
              H :=
                #v[some 0x6a09e667, some 0xbb67ae85, some 0x3c6ef372, some 0xa54ff53a, some 0x510e527f,
                  some 0x9b05688c, some 0x1f83d9ab, some 0x5be0cd19]
              I := some 0
              STATUS := .busy
              OP := 1
              TCTR := 0 })

/-- 44_control.md R160, R162: ABORT is recorded while BUSY and changes nothing else; otherwise it changes nothing. EMIT, the
micro-operation after the last dispatch, does not look at it and leaves it. That EMIT completes also where H holds no value is
the model's choice (log entry 1). -/
def Obligations.AbortIsRecordedWhileBusy : Prop :=
  ∀ s : State,
    (s.STATUS = .busy → exec .abort s = .next { s with ABORT_PENDING := true }) ∧
      (s.STATUS ≠ .busy → exec .abort s = .next s) ∧
      ∃ t, exec .emit s = .next t ∧ t.STATUS = .done ∧ t.ABORT_PENDING = s.ABORT_PENDING

/-- 10_state.md R29, 44_control.md R160: each value the host presents is one command, taken once. A command that
waits, any commands presented one after another, and then one step of the core: each of them is executed once, in that order, and
none waits afterwards. That the core takes a waiting command before anything else happens is the model's choice (log entry 6). -/
def Obligations.EveryPresentedCommandIsTakenOnce : Prop :=
  ∀ (s : State) (cs : List (BitVec 2)),
    s.CMD.toList ++ cs ≠ [] →
      ∃ t,
        runTrace (cs.map Event.command ++ [.core]) s = .next t ∧
          TakesInTurn (s.CMD.toList ++ cs) { s with CMD := none } t ∧ t.CMD = none

/-! ## Padder -/

/-- 42_padder.md R120: PAD writes L, PADBITS, TLEN, TOTAL and T from LEN alone, never raises InvariantViolation, and ends in the
dispatch with I = 0: a pending ABORT abandons (44_control.md R172), else the block operation selected for the window at 0 is
named. Nothing else changes; `draw`, the model's own counter (log entry 2), is left out of the comparison. -/
def Obligations.PadBuildsTail : Prop :=
  ∀ (s : State) (n : U64),
    s.LEN = some n → n.toNat < 2 ^ 61 →
      let lb := 8 * n.toNat
      let pb := (512 - ((lb + 8 + 64) % 512)) % 512
      let tl := (8 + pb + 64) / 8
      (s.ABORT_PENDING = true → ∃ t, exec .pad s = .next t ∧ Abandoned s t) ∧
        (s.ABORT_PENDING = false →
          ∃ t,
            exec .pad s = .next t ∧
              { t with draw := s.draw } =
                { s with
                  L := some (BitVec.ofNat 64 lb)
                  PADBITS := some (BitVec.ofNat 9 pb)
                  TLEN := some (BitVec.ofNat 7 tl)
                  TOTAL := some (BitVec.ofNat 64 (n.toNat + tl))
                  T :=
                    Vector.ofFn fun j : Fin 72 =>
                      if j.val = 0 then some 0x80
                      else if j.val ≤ tl - 9 then some 0x00
                      else if j.val < tl then
                        some (BitVec.ofNat 8 ((lb >>> (8 * (7 - (j.val - (tl - 8))))) % 256))
                      else none
                  OP := if 64 ≤ n.toNat then 2 else if n.toNat = 0 then 3 else 4
                  TCTR := 0 })

/-- 42_padder.md R122 to R124 and property S3, the spec's own inferences from R120: after PAD, no ABORT pending, the padded
length is a multiple of 64 and at least 64, the tail has 64 − r or 128 − r bytes for r = LEN mod 64, and its last eight
bytes read big-endian are 8 × LEN. -/
def Obligations.PaddedStreamIsWholeBlocks : Prop :=
  ∀ (s : State) (n : U64),
    s.LEN = some n → n.toNat < 2 ^ 61 → s.ABORT_PENDING = false →
      ∃ t tl tot,
        exec .pad s = .next t ∧ t.TLEN = some tl ∧ t.TOTAL = some tot ∧
          tot.toNat % 64 = 0 ∧ 64 ≤ tot.toNat ∧ tot.toNat = n.toNat + tl.toNat ∧ 9 ≤ tl.toNat ∧ tl.toNat ≤ 72 ∧
          tl.toNat = (if n.toNat % 64 ≤ 55 then 64 - n.toNat % 64 else 128 - n.toNat % 64) ∧
          ∃ b : Fin 8 → Byte,
            (∀ k : Fin 8, t.T[tl.toNat - 8 + k.val]? = some (some (b k))) ∧
              (∑ k : Fin 8, (b k).toNat * 256 ^ (7 - k.val)) = 8 * n.toNat

/-- 42_padder.md R125 to R127 (and R130): in the windows they are selected for, BLK_MSG, BLK_TAIL and BLK_MERGE fill B from the
message, from T, or from both at the boundary, name LOADW 0, and change nothing else. `tb` is the content of T. -/
def Obligations.BlockFillsFromPaddedStream : Prop :=
  ∀ (s : State) (n i : U64) (tb : Nat → Byte),
    s.LEN = some n → s.I = some i →
      (i.toNat + 64 ≤ n.toNat →
        exec .blkMsg s =
          .next
            { s with
              B := Vector.ofFn fun j : Fin 64 => some (Memory.read s.MSG (i.toNat + j.val))
              OP := 5
              TCTR := 0 }) ∧
      (n.toNat ≤ i.toNat → (∀ j, j < 64 → s.T[i.toNat - n.toNat + j]? = some (some (tb (i.toNat - n.toNat + j)))) →
        exec .blkTail s =
          .next
            { s with
              B := Vector.ofFn fun j : Fin 64 => some (tb (i.toNat - n.toNat + j.val))
              OP := 5
              TCTR := 0 }) ∧
      (i.toNat < n.toNat → n.toNat < i.toNat + 64 →
        (∀ j, j < 64 - (n.toNat - i.toNat) → s.T[j]? = some (some (tb j))) →
        exec .blkMerge s =
          .next
            { s with
              B :=
                Vector.ofFn fun j : Fin 64 =>
                  if j.val < n.toNat - i.toNat then some (Memory.read s.MSG (i.toNat + j.val))
                  else some (tb (j.val - (n.toNat - i.toNat)))
              OP := 5
              TCTR := 0 })

/-! ## Compressor -/

/-- 43_compressor.md R141, 30_encoding.md R74: LOADW t writes the big-endian word of B[4t..4t+3] to W[t] and names LOADW t+1,
or EXPAND 16 after the last; nothing else changes. -/
def Obligations.LoadwLoadsBigEndianWord : Prop :=
  ∀ (s : State) (t : BitVec 4) (b0 b1 b2 b3 : Byte),
    s.B[4 * t.toNat]? = some (some b0) → s.B[4 * t.toNat + 1]? = some (some b1) →
      s.B[4 * t.toNat + 2]? = some (some b2) → s.B[4 * t.toNat + 3]? = some (some b3) →
        exec (.loadw t) s =
          .next
            { s with
              W :=
                s.W.setIfInBounds t.toNat
                  (some
                    (BitVec.ofNat 32
                      (b0.toNat * 2 ^ 24 + b1.toNat * 2 ^ 16 + b2.toNat * 2 ^ 8 + b3.toNat)))
              OP := if t.toNat < 15 then 5 else 6
              TCTR := if t.toNat < 15 then BitVec.ofNat 6 (t.toNat + 1) else 16 }

/-- 43_compressor.md R142: EXPAND t, 16 ≤ t, writes the sum modulo 2^32 of σ1(W[t−2]), W[t−7], σ0(W[t−15]), W[t−16] to W[t]
and names EXPAND t+1, or INITV after the last; nothing else changes. -/
def Obligations.ExpandDerivesScheduleWord : Prop :=
  ∀ (s : State) (t : BitVec 6) (w2 w7 w15 w16 : Word),
    16 ≤ t.toNat → s.W[t.toNat - 2]? = some (some w2) → s.W[t.toNat - 7]? = some (some w7) →
      s.W[t.toNat - 15]? = some (some w15) → s.W[t.toNat - 16]? = some (some w16) →
        exec (.expand t) s =
          .next
            { s with
              W :=
                s.W.setIfInBounds t.toNat
                  (some
                    (BitVec.ofNat 32
                      ((ssig1 w2).toNat + w7.toNat + (ssig0 w15).toNat + w16.toNat)))
              OP := if t.toNat < 63 then 6 else 7
              TCTR := if t.toNat < 63 then BitVec.ofNat 6 (t.toNat + 1) else 0 }

/-- 43_compressor.md R144: INITV copies H[0..7] into a..h and names ROUND 0; nothing else changes. -/
def Obligations.InitvCopiesHashState : Prop :=
  ∀ (s : State) (h0 h1 h2 h3 h4 h5 h6 h7 : Word),
    s.H = #v[some h0, some h1, some h2, some h3, some h4, some h5, some h6, some h7] →
      exec .initv s =
        .next
          { s with
            wv :=
              { a := some h0, b := some h1, c := some h2, d := some h3
                e := some h4, f := some h5, g := some h6, h := some h7 }
            OP := 8
            TCTR := 0 }

/-- 43_compressor.md R145: ROUND t is the simultaneous update with T1 and T2, K[t] and W[t], and names ROUND t+1, or FOLD after
the last; nothing else changes. -/
def Obligations.RoundMixesWorkingVariables : Prop :=
  ∀ (s : State) (t : BitVec 6) (a b c d e f g h w : Word),
    s.wv =
        { a := some a, b := some b, c := some c, d := some d, e := some e, f := some f, g := some g, h := some h } →
      s.W[t.toNat]? = some (some w) →
        let t1 := h + bsig1 e + ch e f g + Config.K[t.toNat]'(t.isLt) + w
        let t2 := bsig0 a + maj a b c
        exec (.round t) s =
          .next
            { s with
              wv :=
                { a := some (t1 + t2), b := some a, c := some b, d := some c
                  e := some (d + t1), f := some e, g := some f, h := some g }
              OP := if t.toNat < 63 then 8 else 9
              TCTR := if t.toNat < 63 then BitVec.ofNat 6 (t.toNat + 1) else 0 }

/-- 43_compressor.md R146: FOLD adds a..h into H[0..7] element by element modulo 2^32 and names NEXT; nothing else changes. -/
def Obligations.FoldAddsIntoHashState : Prop :=
  ∀ (s : State) (a b c d e f g h h0 h1 h2 h3 h4 h5 h6 h7 : Word),
    s.wv =
        { a := some a, b := some b, c := some c, d := some d, e := some e, f := some f, g := some g, h := some h } →
      s.H = #v[some h0, some h1, some h2, some h3, some h4, some h5, some h6, some h7] →
        exec .fold s =
          .next
            { s with
              H :=
                #v[some (h0 + a), some (h1 + b), some (h2 + c), some (h3 + d), some (h4 + e), some (h5 + f),
                  some (h6 + g), some (h7 + h)]
              OP := 10
              TCTR := 0 }

/-- 43_compressor.md R147, 44_control.md R171, R172, 60_exceptions.md R203, R205: NEXT advances I by 64 and dispatches, the four
tests in their order: a pending ABORT abandons; I = TOTAL names EMIT; less than a whole window left raises
InvariantViolation; else the block operation selected by R128 is named. -/
def Obligations.NextAdvancesAndDispatches : Prop :=
  ∀ (s : State) (n i tot : U64),
    s.LEN = some n → s.I = some i → s.TOTAL = some tot → i.toNat + 64 < 2 ^ 64 →
      (s.ABORT_PENDING = true → ∃ t, exec .next s = .next t ∧ Abandoned s t) ∧
      (s.ABORT_PENDING = false → i.toNat + 64 = tot.toNat →
        exec .next s = .next { s with I := some (i + 64), OP := 11, TCTR := 0 }) ∧
      (s.ABORT_PENDING = false → i.toNat + 64 ≠ tot.toNat → tot.toNat < i.toNat + 128 →
        ∃ t, exec .next s = .next t ∧ FaultEntered .invariantViolation s t) ∧
      (s.ABORT_PENDING = false → i.toNat + 128 ≤ tot.toNat →
        exec .next s =
          .next
            { s with
              I := some (i + 64)
              OP := if i.toNat + 128 ≤ n.toNat then 2 else if n.toNat ≤ i.toNat + 64 then 3 else 4
              TCTR := 0 })

/-- 43_compressor.md R148, 30_encoding.md R75, 10_state.md R40: EMIT serialises H big-endian into DIGEST and sets STATUS to DONE;
H and LEN keep their value, the other data registers lose theirs, the rest is unchanged. -/
def Obligations.EmitSerialisesDigest : Prop :=
  ∀ (s : State) (h : Fin 8 → Word),
    (∀ i : Fin 8, s.H[i.val]? = some (some (h i))) →
      ∃ t d,
        exec .emit s = .next t ∧ t.STATUS = .done ∧ t.OP = 0 ∧ t.TCTR = 0 ∧ t.DIGEST = some d ∧
          (∀ (i : Fin 8) (k : Fin 4),
            d[4 * i.val + k.val]? = some (BitVec.ofNat 8 ((h i).toNat / 2 ^ (8 * (3 - k.val)) % 256))) ∧
          t.H = s.H ∧ t.LEN = s.LEN ∧ DataForgotten t ∧ t.FAULT_CODE = s.FAULT_CODE ∧
          t.ABORT_PENDING = s.ABORT_PENDING ∧ HostSideKept s t

/-- 44_control.md R164: IDLE changes nothing. -/
def Obligations.IdleChangesNothing : Prop := ∀ s : State, exec .idle s = .next s

/-! ## Bit primitives

The result wire they drive is the model's own (log entry 7); the functions are the spec's. -/

/-- 41_bit_primitives.md R110: bit `j` of `rotr(x, n)` is bit `(j + n) mod 32` of `x`, for a count of any size; the operation drives
the result wire and changes nothing else. -/
def Obligations.RotrMovesEachBit : Prop :=
  ∀ s : State,
    ∃ r : Word,
      exec .rotr s = .next { s with fu := { s.fu with result := some r } } ∧
        ∀ j, j < 32 → r.getLsbD j = s.fu.x.getLsbD ((j + s.fu.n) % 32)

/-- 41_bit_primitives.md R111: `shr(x, n)` is `floor(x / 2^n)`, for a count of any size. -/
def Obligations.ShrDividesByPowerOfTwo : Prop :=
  ∀ s : State,
    ∃ r : Word,
      exec .shr s = .next { s with fu := { s.fu with result := some r } } ∧ r.toNat = s.fu.x.toNat / 2 ^ s.fu.n

/-- 41_bit_primitives.md R112, R113: where a bit of `x` is 1 `ch` takes the bit of `y`, else of `z`; a bit of `maj` is 1 when at
least two of the three are. -/
def Obligations.ChChoosesAndMajVotes : Prop :=
  ∀ s : State,
    ∃ r q : Word,
      exec .ch s = .next { s with fu := { s.fu with result := some r } } ∧
        exec .maj s = .next { s with fu := { s.fu with result := some q } } ∧
        ∀ j, j < 32 →
          r.getLsbD j = (if s.fu.x.getLsbD j = true then s.fu.y.getLsbD j else s.fu.z.getLsbD j) ∧
            (q.getLsbD j = true ↔
              2 ≤ (s.fu.x.getLsbD j).toNat + (s.fu.y.getLsbD j).toNat + (s.fu.z.getLsbD j).toNat)

/-- 41_bit_primitives.md R114 to R117: each bit of the sigma functions is the exclusive or of three bits of the operand; the third
term of σ0 and σ1 is a shift, so it is absent at the top. -/
def Obligations.SigmasMixThreeBits : Prop :=
  ∀ s : State,
    ∃ r0 r1 q0 q1 : Word,
      exec .bsig0 s = .next { s with fu := { s.fu with result := some r0 } } ∧
        exec .bsig1 s = .next { s with fu := { s.fu with result := some r1 } } ∧
        exec .ssig0 s = .next { s with fu := { s.fu with result := some q0 } } ∧
        exec .ssig1 s = .next { s with fu := { s.fu with result := some q1 } } ∧
        ∀ j, j < 32 →
          r0.getLsbD j =
              (s.fu.x.getLsbD ((j + 2) % 32) ^^ s.fu.x.getLsbD ((j + 13) % 32) ^^ s.fu.x.getLsbD ((j + 22) % 32)) ∧
            r1.getLsbD j =
              (s.fu.x.getLsbD ((j + 6) % 32) ^^ s.fu.x.getLsbD ((j + 11) % 32) ^^ s.fu.x.getLsbD ((j + 25) % 32)) ∧
            q0.getLsbD j =
              (s.fu.x.getLsbD ((j + 7) % 32) ^^ s.fu.x.getLsbD ((j + 18) % 32) ^^ s.fu.x.getLsbD (j + 3)) ∧
            q1.getLsbD j =
              (s.fu.x.getLsbD ((j + 17) % 32) ^^ s.fu.x.getLsbD ((j + 19) % 32) ^^ s.fu.x.getLsbD (j + 10))

/-- 41_bit_primitives.md R118, property S4: rotating by 0 or by 32 is the identity, and so is rotating 32 times by any count. -/
def Obligations.RotrThirtyTwoTimesIsIdentity : Prop :=
  ∀ (x : Word) (n : Nat), rotr x 0 = x ∧ rotr x 32 = x ∧ (fun y => rotr y n)^[32] x = x

/-- 40_constants.md R100: `K[t]` is `icbrt(p(t+1) × 2^96) mod 2^32` and `HINIT[i]` is `isqrt(p(i+1) × 2^64) mod 2^32`, `p(n)` being
the n-th prime, counted from 2: the contents of both tables are the fractional parts of roots (the self-check of R104 in
terms of roots and primes alone). -/
def Obligations.ConstantTablesAreFractionalRoots : Prop :=
  (∀ t : Fin 64,
      ∃ r : Nat,
        r ^ 3 ≤ Nat.nth Nat.Prime t.val * 2 ^ 96 ∧ Nat.nth Nat.Prime t.val * 2 ^ 96 < (r + 1) ^ 3 ∧
          (Config.K[t.val]'(t.isLt)).toNat = r % 2 ^ 32) ∧
    ∀ i : Fin 8,
      ∃ r : Nat,
        r ^ 2 ≤ Nat.nth Nat.Prime i.val * 2 ^ 64 ∧ Nat.nth Nat.Prime i.val * 2 ^ 64 < (r + 1) ^ 2 ∧
          (Config.HINIT[i.val]'(i.isLt)).toNat = r % 2 ^ 32

/-! ## Faults and reset -/

/-- 60_exceptions.md R206: in FAULT no step of the machine but an accepted START changes STATUS or FAULT_CODE. -/
def Obligations.FaultPersistsUntilStart : Prop :=
  ∀ s : State,
    s.STATUS = .fault → s.CMD ≠ some 1 →
      ∃ t, step s = .next t ∧ t.STATUS = .fault ∧ t.FAULT_CODE = s.FAULT_CODE ∧ t.DIGEST = s.DIGEST

/-- 10_state.md R38, 70_reset_and_hazards.md R230, R231: reset, in any state, gives the values of R38; the message memory and
MSG_LEN stay. -/
def Obligations.ResetInAnyStateGivesResetValues : Prop :=
  ∀ s : State,
    ∃ t,
      Event.apply .reset s = .next t ∧ t.STATUS = .idle ∧ t.FAULT_CODE = .none ∧ t.OP = 0 ∧ t.TCTR = 0 ∧
        t.ABORT_PENDING = false ∧ t.DIGEST = none ∧ t.H = Vector.replicate 8 none ∧ DataForgotten t ∧
        t.LEN = none ∧ t.MSG = s.MSG ∧ t.MSG_LEN = s.MSG_LEN

/-- What becomes of a command that waits at reset, the model's choice (log entry 6; 10_state.md R38 takes CMD as NONE during reset):
none waits afterwards, and the state is the one reset gives after the command has been taken, whatever it was (`draw`, the
model's own counter, log entry 2, aside). -/
def Obligations.ResetAbsorbsWaitingCommand : Prop :=
  ∀ (s : State) (c : BitVec 2),
    s.CMD = some c →
      ∃ t u v,
        Event.apply .reset s = .next t ∧ t.CMD = none ∧ step s = .next u ∧ Event.apply .reset u = .next v ∧
          { t with draw := v.draw } = v

/-- 10_state.md R38: the same values in the state after reset. -/
def Obligations.ResetStateHoldsResetValues : Prop :=
  State.reset.STATUS = .idle ∧ State.reset.FAULT_CODE = .none ∧ State.reset.OP = 0 ∧ State.reset.TCTR = 0 ∧
    State.reset.ABORT_PENDING = false ∧ State.reset.DIGEST = none ∧ State.reset.H = Vector.replicate 8 none ∧
    DataForgotten State.reset ∧ State.reset.LEN = none

/-! ## Whole-machine rules -/

/-- 20_memory.md R53, 10_state.md R29: no step writes the message memory or the MSG_LEN port. -/
def Obligations.StepNeverWritesMessage : Prop :=
  ∀ s t : State, step s = .next t → t.MSG = s.MSG ∧ t.MSG_LEN = s.MSG_LEN

/-- 10_state.md R21: while a computation runs on, H is written by START and FOLD alone: any other operation that leaves the
state BUSY or ends in DONE leaves H as it was. -/
def Obligations.OnlyStartAndFoldWriteHashState : Prop :=
  ∀ (i : Instr) (s t : State),
    exec i s = .next t → i ≠ .start → i ≠ .fold → (t.STATUS = .busy ∨ t.STATUS = .done) → t.H = s.H

/-- 43_compressor.md R152, R151: from the block operation to FOLD nothing stops the core: STATUS, FAULT_CODE, DIGEST and a recorded
ABORT stay as they are, and H changes in FOLD alone. That these operations complete also in states no run reaches is the model's
choice: where a register they read holds no value log entry 1 (00_scope.md R12 calls that read an error of the model), where
a block operation's precondition fails log entry 13, where it reads the message at or beyond LEN log entry 5. -/
def Obligations.NothingStopsTheCoreMidBlock : Prop :=
  ∀ (i : Instr) (s : State),
    (i = .blkMsg ∨ i = .blkTail ∨ i = .blkMerge ∨ (∃ t, i = .loadw t) ∨ (∃ t, i = .expand t ∧ 16 ≤ t.toNat) ∨
        i = .initv ∨ (∃ t, i = .round t) ∨ i = .fold) →
      ∃ t,
        exec i s = .next t ∧ t.STATUS = s.STATUS ∧ t.FAULT_CODE = s.FAULT_CODE ∧ t.DIGEST = s.DIGEST ∧
          t.ABORT_PENDING = s.ABORT_PENDING ∧ t.LEN = s.LEN ∧ t.I = s.I ∧ t.TOTAL = s.TOTAL ∧ t.T = s.T ∧
          HostSideKept s t ∧ (i ≠ .fold → t.H = s.H)

/-- 10_state.md R30, R31, R32: the ports and the sequencer agree, after every step from a state in which they do. -/
def Obligations.StepKeepsControlConsistent : Prop :=
  ∀ s t : State, ControlInv s → step s = .next t → ControlInv t

/-- 10_state.md R39, 60_exceptions.md R213: every step keeps the invariant that what the next micro-operation reads was written
by this computation. -/
def Obligations.StepKeepsComputationInvariant : Prop := ∀ s t : State, Inv s → step s = .next t → Inv t

/-- Every event of the host keeps it too (44_control.md R160, R175): it holds along every trace. -/
def Obligations.EventKeepsComputationInvariant : Prop :=
  ∀ (e : Event) (s t : State), Inv s → e.apply s = .next t → Inv t

/-- The invariant holds at reset. -/
def Obligations.ResetMeetsComputationInvariant : Prop := Inv State.reset

/-- 60_exceptions.md R213, 30_encoding.md R88: where the invariant holds, a step is never stuck and never raises
InvariantViolation. -/
def Obligations.InvariantViolationIsUnreachable : Prop :=
  ∀ s : State,
    Inv s → s.FAULT_CODE ≠ .invariantViolation → ∃ t, step s = .next t ∧ t.FAULT_CODE ≠ .invariantViolation

/-- Every event keeps the message memory in its canonical form, the model's own (log entry 4). -/
def Obligations.EventKeepsMemoryForm : Prop :=
  ∀ (e : Event) (s t : State), Memory.wf s.MSG = true → e.apply s = .next t → Memory.wf t.MSG = true

/-- 44_control.md R175: the host's fill of the message memory, while the core is not BUSY, is what is read back; other bytes
stay. -/
def Obligations.FilledMessageReadsBack : Prop :=
  ∀ (s : State) (m : List Byte),
    s.STATUS ≠ .busy → Memory.wf s.MSG = true → m.length ≤ 2 ^ 64 →
      ∃ t,
        Event.apply (.fillMsg m) s = .next t ∧ (∀ j, j < m.length → Memory.read t.MSG j = m.getD j 0) ∧
          (∀ j, m.length ≤ j → Memory.read t.MSG j = Memory.read s.MSG j) ∧ { t with MSG := s.MSG } = s

/-! ## Headlines -/

/-- 43_compressor.md R149, the spec's inference from R140 to R146: from LOADW 0 with B = blk and H = hin, 130 micro-operations
(16 LOADW, 48 EXPAND, INITV, 64 ROUND, FOLD) lead to NEXT with H = compress(hin, blk); nothing else that a later step
reads changes. -/
def Obligations.BlockRunIsCompression : Prop :=
  ∀ (s : State) (hin : Vector Word 8) (blk : Nat → Byte),
    Undisturbed s → s.STATUS = .busy → s.OP = 5 → s.TCTR = 0 → s.H = hin.map some →
      (∀ j, j < 64 → s.B[j]? = some (some (blk j))) →
        ∃ t,
          Host.Core.run core 130 s = .next t ∧ t.OP = 10 ∧ t.TCTR = 0 ∧ t.H = (compress hin blk).map some ∧
            t = { s with H := t.H, wv := t.wv, W := t.W, OP := t.OP, TCTR := t.TCTR }

/-- 44_control.md R174, 42_padder.md R129, 30_encoding.md R91, the spec's inference: the core performs the listed sequence for the
length, `2 + 132 × NB` micro-operations, and rests in DONE; it depends on the length alone. -/
def Obligations.ComputationPerformsMicroSequence : Prop :=
  (∀ n, (microSequence n).length = 2 + 132 * windowCount n ∧ windowCount n = (n + tailLen n) / 64) ∧
    ∀ s : State,
      s.STATUS ≠ .busy → s.CMD = some 1 → s.MSG_LEN.toNat < 2 ^ 61 →
        ∃ u t, step s = .next u ∧ Performs u (microSequence s.MSG_LEN.toNat) t ∧ t.STATUS = .done

/-- 44_control.md R176, R174, R178, the spec's inference: with the message `m` in the memory and its length on MSG_LEN, a START
taken in any state that is not BUSY leads, undisturbed, after 2 + 132 × blocks micro-operations, to STATUS = DONE with DIGEST =
sha256(m) and no fault, whatever the core held before. -/
def Obligations.DigestIsSha256OfMessage : Prop :=
  ∀ (s : State) (m : List Byte),
    s.STATUS ≠ .busy → s.CMD = some 1 → m.length < 2 ^ 61 → s.MSG_LEN.toNat = m.length →
      (∀ j, j < m.length → Memory.read s.MSG j = m.getD j 0) →
        ∃ t,
          Host.Core.run core (1 + (2 + 132 * ((m.length + tailLen m.length) / 64))) s = .next t ∧
            t.STATUS = .done ∧ t.DIGEST = some (sha256 m) ∧ t.FAULT_CODE = .none ∧ t.OP = 0 ∧ t.TCTR = 0

/-- 44_control.md R177, property S2, 20_memory.md R52, 93 U13: two computations with the same length and the same bytes below it end
with the same digest, whatever the two cores held before and whatever lies beyond the message. -/
def Obligations.DigestDependsOnMessageAlone : Prop :=
  ∀ (s s' : State),
    s.STATUS ≠ .busy → s'.STATUS ≠ .busy → s.CMD = some 1 → s'.CMD = some 1 →
      s.MSG_LEN = s'.MSG_LEN → s.MSG_LEN.toNat < 2 ^ 61 →
        (∀ j, j < s.MSG_LEN.toNat → Memory.read s.MSG j = Memory.read s'.MSG j) →
          ∃ k t t',
            Host.Core.run core k s = .next t ∧ Host.Core.run core k s' = .next t' ∧ t.STATUS = .done ∧
              t'.STATUS = .done ∧ t.DIGEST.isSome = true ∧ t.DIGEST = t'.DIGEST

/-- 44_control.md R162, R171, R172, 43_compressor.md R152: a recorded ABORT ends the computation within one block: after at most
132 undisturbed micro-operations STATUS is IDLE without a digest or, where EMIT was already chosen, DONE. -/
def Obligations.AbortEndsWithinOneBlock : Prop :=
  ∀ s : State,
    Inv s → Undisturbed s → s.STATUS = .busy → s.ABORT_PENDING = true →
      ∃ k t,
        k ≤ 132 ∧ Host.Core.run core k s = .next t ∧
          ((t.STATUS = .idle ∧ t.DIGEST = none ∧ t.ABORT_PENDING = false ∧ s.OP ≠ 11) ∨
            (t.STATUS = .done ∧ s.OP = 11))
end

