-- ==== Sys2Proof/Machine/Constants.lean ====
section
/-! DEFINITION. The derivation of the constant tables in exact integer arithmetic (40_constants.md R100, R103) and the mandatory
self-check of R104, passed when the model is built. The running hardware computes no root (00_scope.md R13) and no operation
checks the tables (60_exceptions.md R204). -/

namespace Sys2Proof.Machine

/-- The largest number below `r + 2^bits` and not below `r` whose `e`-th power is at most `n`, if `r` is such a number:
one bit at a time from the top. -/
def rootFrom (e n : Nat) : Nat → Nat → Nat
  | 0, r => r
  | bits + 1, r => rootFrom e n bits (if (r + 2 ^ bits) ^ e ≤ n then r + 2 ^ bits else r)

/-- `isqrt(n)` for `n < 2^80` (40_constants.md R100). -/
def isqrt (n : Nat) : Nat := rootFrom 2 n 40 0

/-- `icbrt(n)` for `n < 2^120` (40_constants.md R100). -/
def icbrt (n : Nat) : Nat := rootFrom 3 n 40 0

/-- "an integer `c >= 2` is prime when no prime `q` with `q × q <= c` divides it", the smaller primes being `ps`
(40_constants.md R103). -/
def primeOver (ps : List Nat) (c : Nat) : Bool := ps.all fun q => decide (c < q * q) || decide (c % q ≠ 0)

/-- The primes among `c, c + 1, …` (`fuel` of them tried), collected after the primes `ps`. -/
def primesFrom : Nat → Nat → List Nat → List Nat
  | 0, _, ps => ps
  | fuel + 1, c, ps => primesFrom fuel (c + 1) (if primeOver ps c then ps ++ [c] else ps)

/-- The first 64 primes, in increasing order (40_constants.md R103): those of 2..311. -/
def primes64 : List Nat := primesFrom 310 2 []

/-- `K[t] = icbrt(p × 2^96) mod 2^32` for the prime `p` (40_constants.md R100). -/
def deriveK (p : Nat) : Word := BitVec.ofNat 32 (icbrt (p * 2 ^ 96))

/-- `HINIT[i] = isqrt(p × 2^64) mod 2^32` for the prime `p` (40_constants.md R100). -/
def deriveH (p : Nat) : Word := BitVec.ofNat 32 (isqrt (p * 2 ^ 64))

/-- THE SELF-CHECK (40_constants.md R104, 60_exceptions.md R204, property S5): the routine "that generates the first 64 primes ... and
reproduces both tables must match the hardcoded constants exactly", all 64 entries of K and all 8 of HINIT; the prime and
integer columns of R101 are checked with them. -/
def constantsSelfCheck : Bool :=
  decide (Config.K.toList = primes64.map deriveK) && decide (Config.HINIT.toList = (primes64.take 8).map deriveH) &&
    decide (Config.kRows.map ConstantRow.prime = primes64) && decide (Config.kRows.map ConstantRow.int = primes64.map icbrt)

/-- The model passes its self-check; tables that disagreed with the derivation (*malformed-constants*, a "build-time/test-time
failure", R104) would not compile. -/
theorem constantsSelfCheck_passes : constantsSelfCheck = true := by decide +kernel

end Sys2Proof.Machine
end

