-- ==== Sys2Proof/Laws/Constants.lean ====
section
/-! SUPPORT. What the self-check of the constant tables says (40_constants.md R104), and facts about the derivation (R100, R103). -/

namespace Sys2Proof.Machine

/-- R103: the derivation's primes are the 64 the spec lists; the last is 311 and their sum 8893 (95 section 2.1). -/
theorem primes64_listed :
    primes64.length = 64 ∧ primes64.getLast? = some 311 ∧ primes64.sum = 8893 ∧ primes64.take 8 = [2, 3, 5, 7, 11, 13, 17, 19] := by
  decide +kernel

/-- R104, K: all 64 entries. -/
theorem K_is_derived : Config.K.toList = primes64.map deriveK := by
  have h := constantsSelfCheck_passes
  simp only [constantsSelfCheck, Bool.and_eq_true, decide_eq_true_eq] at h
  exact h.1.1.1

/-- R104, HINIT: all 8 entries. -/
theorem HINIT_is_derived : Config.HINIT.toList = (primes64.take 8).map deriveH := by
  have h := constantsSelfCheck_passes
  simp only [constantsSelfCheck, Bool.and_eq_true, decide_eq_true_eq] at h
  exact h.1.1.2

/-- The derivation's roots are roots: `icbrt(n)^3 <= n < (icbrt(n) + 1)^3` for the 64 numbers it is applied to, and likewise
`isqrt` (R100). -/
theorem roots_are_roots :
    (primes64.all fun p =>
        decide (icbrt (p * 2 ^ 96) ^ 3 ≤ p * 2 ^ 96) && decide (p * 2 ^ 96 < (icbrt (p * 2 ^ 96) + 1) ^ 3) &&
          decide (isqrt (p * 2 ^ 64) ^ 2 ≤ p * 2 ^ 64) && decide (p * 2 ^ 64 < (isqrt (p * 2 ^ 64) + 1) ^ 2)) =
      true := by
  decide +kernel

end Sys2Proof.Machine
end

