-- ==== Sys2Proof/Laws/Decode.lean ====
section
/-! SUPPORT. Decoding: the pair in `pc` and its word, and the pair of a micro-operation. -/

namespace Sys2Proof

theorem microWord_lt (op : BitVec 4) (t : BitVec 6) : microWord op t < 1024 := by
  have := op.isLt
  have := t.isLt
  unfold microWord
  omega

/-- The word of a pair decodes as the pair does. -/
theorem decode_microWord (op : BitVec 4) (t : BitVec 6) : decode .u (microWord op t) = decodeU op t := by
  have h := microWord_lt op t
  have ho := op.isLt
  have ht := t.isLt
  have h1 : microWord op t / 64 = op.toNat := by unfold microWord; omega
  have h2 : microWord op t % 64 = t.toNat := by unfold microWord; omega
  have h3 : ¬2 ^ Format.u.width ≤ microWord op t := by simp only [Format.width]; omega
  simp only [decode, if_neg h3, h1, h2, BitVec.ofNat_toNat, BitVec.setWidth_eq]

/-- The pair a rule writes for a micro-operation decodes to it. -/
theorem decodeU_pair (i : Instr) (hf : i.format = .u) (hw : i.wellFormed = true) : decodeU i.op i.tctr = .ok i := by
  cases i <;> first | (simp [Instr.format] at hf; done) | rfl | skip
  case loadw t => revert t; decide
  case expand t => simp only [Instr.wellFormed, decide_eq_true_eq] at hw; simp [decodeU, Instr.op, Instr.tctr, hw]

/-- What a pair decodes to is a micro-operation, well formed, with that pair; checked on all 1024 pairs. -/
theorem decodeU_sound {op : BitVec 4} {t : BitVec 6} {i : Instr} (h : decodeU op t = .ok i) :
    i.format = .u ∧ i.op = op ∧ i.tctr = t ∧ i.wellFormed = true := by
  have all :
      ∀ (op : BitVec 4) (t : BitVec 6),
        (match decodeU op t with
          | .ok i => i.format == .u && i.op == op && i.tctr == t && i.wellFormed
          | .reject _ => true) = true := by
    decide +kernel
  have hot := all op t
  rw [h] at hot
  simpa [and_assoc] using hot

/-- The next index of LOADW, of EXPAND and of ROUND does not wrap. -/
theorem toNat_succ4 : ∀ k : BitVec 4, k.toNat < 15 → (k + 1).toNat = k.toNat + 1 := by decide

theorem toNat_succ6 : ∀ k : BitVec 6, k.toNat < 63 → (k + 1).toNat = k.toNat + 1 := by decide

end Sys2Proof
end

