-- ==== Sys2Proof/Laws/State.lean ====
section
/-! SUPPORT. One lemma per field per named update of the state, so that no later proof unfolds a record update. -/

namespace Sys2Proof.Machine

variable (s : State)

/-! ### `pc <- (op, t)` -/

@[simp] theorem State.goTo_H (i : Instr) : (s.goTo i).H = s.H := rfl
@[simp] theorem State.goTo_wv (i : Instr) : (s.goTo i).wv = s.wv := rfl
@[simp] theorem State.goTo_W (i : Instr) : (s.goTo i).W = s.W := rfl
@[simp] theorem State.goTo_T (i : Instr) : (s.goTo i).T = s.T := rfl
@[simp] theorem State.goTo_B (i : Instr) : (s.goTo i).B = s.B := rfl
@[simp] theorem State.goTo_LEN (i : Instr) : (s.goTo i).LEN = s.LEN := rfl
@[simp] theorem State.goTo_L (i : Instr) : (s.goTo i).L = s.L := rfl
@[simp] theorem State.goTo_PADBITS (i : Instr) : (s.goTo i).PADBITS = s.PADBITS := rfl
@[simp] theorem State.goTo_TLEN (i : Instr) : (s.goTo i).TLEN = s.TLEN := rfl
@[simp] theorem State.goTo_TOTAL (i : Instr) : (s.goTo i).TOTAL = s.TOTAL := rfl
@[simp] theorem State.goTo_I (i : Instr) : (s.goTo i).I = s.I := rfl
@[simp] theorem State.goTo_CMD (i : Instr) : (s.goTo i).CMD = s.CMD := rfl
@[simp] theorem State.goTo_MSG_LEN (i : Instr) : (s.goTo i).MSG_LEN = s.MSG_LEN := rfl
@[simp] theorem State.goTo_STATUS (i : Instr) : (s.goTo i).STATUS = s.STATUS := rfl
@[simp] theorem State.goTo_FAULT_CODE (i : Instr) : (s.goTo i).FAULT_CODE = s.FAULT_CODE := rfl
@[simp] theorem State.goTo_DIGEST (i : Instr) : (s.goTo i).DIGEST = s.DIGEST := rfl
@[simp] theorem State.goTo_OP (i : Instr) : (s.goTo i).OP = i.op := rfl
@[simp] theorem State.goTo_TCTR (i : Instr) : (s.goTo i).TCTR = i.tctr := rfl
@[simp] theorem State.goTo_ABORT_PENDING (i : Instr) : (s.goTo i).ABORT_PENDING = s.ABORT_PENDING := rfl
@[simp] theorem State.goTo_MSG (i : Instr) : (s.goTo i).MSG = s.MSG := rfl
@[simp] theorem State.goTo_draw (i : Instr) : (s.goTo i).draw = s.draw := rfl
@[simp] theorem State.goTo_fu (i : Instr) : (s.goTo i).fu = s.fu := rfl

/-! ### registers left without a value -/

@[simp] theorem State.forget_H : s.forget.H = s.H := rfl
@[simp] theorem State.forget_wv : s.forget.wv = Working.empty := rfl
@[simp] theorem State.forget_W : s.forget.W = Vector.replicate 64 none := rfl
@[simp] theorem State.forget_T : s.forget.T = Vector.replicate 72 none := rfl
@[simp] theorem State.forget_B : s.forget.B = Vector.replicate 64 none := rfl
@[simp] theorem State.forget_LEN : s.forget.LEN = s.LEN := rfl
@[simp] theorem State.forget_L : s.forget.L = none := rfl
@[simp] theorem State.forget_PADBITS : s.forget.PADBITS = none := rfl
@[simp] theorem State.forget_TLEN : s.forget.TLEN = none := rfl
@[simp] theorem State.forget_TOTAL : s.forget.TOTAL = none := rfl
@[simp] theorem State.forget_I : s.forget.I = none := rfl
@[simp] theorem State.forget_CMD : s.forget.CMD = s.CMD := rfl
@[simp] theorem State.forget_MSG_LEN : s.forget.MSG_LEN = s.MSG_LEN := rfl
@[simp] theorem State.forget_STATUS : s.forget.STATUS = s.STATUS := rfl
@[simp] theorem State.forget_FAULT_CODE : s.forget.FAULT_CODE = s.FAULT_CODE := rfl
@[simp] theorem State.forget_DIGEST : s.forget.DIGEST = s.DIGEST := rfl
@[simp] theorem State.forget_OP : s.forget.OP = s.OP := rfl
@[simp] theorem State.forget_TCTR : s.forget.TCTR = s.TCTR := rfl
@[simp] theorem State.forget_ABORT_PENDING : s.forget.ABORT_PENDING = s.ABORT_PENDING := rfl
@[simp] theorem State.forget_MSG : s.forget.MSG = s.MSG := rfl
@[simp] theorem State.forget_draw : s.forget.draw = s.draw + 1 := rfl
@[simp] theorem State.forget_fu : s.forget.fu = s.fu := rfl

/-! ### registers and H left without a value -/

@[simp] theorem State.forgetAll_H : s.forgetAll.H = Vector.replicate 8 none := rfl
@[simp] theorem State.forgetAll_wv : s.forgetAll.wv = Working.empty := rfl
@[simp] theorem State.forgetAll_W : s.forgetAll.W = Vector.replicate 64 none := rfl
@[simp] theorem State.forgetAll_T : s.forgetAll.T = Vector.replicate 72 none := rfl
@[simp] theorem State.forgetAll_B : s.forgetAll.B = Vector.replicate 64 none := rfl
@[simp] theorem State.forgetAll_LEN : s.forgetAll.LEN = s.LEN := rfl
@[simp] theorem State.forgetAll_L : s.forgetAll.L = none := rfl
@[simp] theorem State.forgetAll_PADBITS : s.forgetAll.PADBITS = none := rfl
@[simp] theorem State.forgetAll_TLEN : s.forgetAll.TLEN = none := rfl
@[simp] theorem State.forgetAll_TOTAL : s.forgetAll.TOTAL = none := rfl
@[simp] theorem State.forgetAll_I : s.forgetAll.I = none := rfl
@[simp] theorem State.forgetAll_CMD : s.forgetAll.CMD = s.CMD := rfl
@[simp] theorem State.forgetAll_MSG_LEN : s.forgetAll.MSG_LEN = s.MSG_LEN := rfl
@[simp] theorem State.forgetAll_STATUS : s.forgetAll.STATUS = s.STATUS := rfl
@[simp] theorem State.forgetAll_FAULT_CODE : s.forgetAll.FAULT_CODE = s.FAULT_CODE := rfl
@[simp] theorem State.forgetAll_DIGEST : s.forgetAll.DIGEST = s.DIGEST := rfl
@[simp] theorem State.forgetAll_OP : s.forgetAll.OP = s.OP := rfl
@[simp] theorem State.forgetAll_TCTR : s.forgetAll.TCTR = s.TCTR := rfl
@[simp] theorem State.forgetAll_ABORT_PENDING : s.forgetAll.ABORT_PENDING = s.ABORT_PENDING := rfl
@[simp] theorem State.forgetAll_MSG : s.forgetAll.MSG = s.MSG := rfl
@[simp] theorem State.forgetAll_draw : s.forgetAll.draw = s.draw + 1 := rfl
@[simp] theorem State.forgetAll_fu : s.forgetAll.fu = s.fu := rfl

/-! ### fault entry -/

@[simp] theorem State.raise_H (code : FaultCode) : (s.raise code).H = Vector.replicate 8 none := rfl
@[simp] theorem State.raise_wv (code : FaultCode) : (s.raise code).wv = Working.empty := rfl
@[simp] theorem State.raise_W (code : FaultCode) : (s.raise code).W = Vector.replicate 64 none := rfl
@[simp] theorem State.raise_T (code : FaultCode) : (s.raise code).T = Vector.replicate 72 none := rfl
@[simp] theorem State.raise_B (code : FaultCode) : (s.raise code).B = Vector.replicate 64 none := rfl
@[simp] theorem State.raise_LEN (code : FaultCode) : (s.raise code).LEN = s.LEN := rfl
@[simp] theorem State.raise_L (code : FaultCode) : (s.raise code).L = none := rfl
@[simp] theorem State.raise_PADBITS (code : FaultCode) : (s.raise code).PADBITS = none := rfl
@[simp] theorem State.raise_TLEN (code : FaultCode) : (s.raise code).TLEN = none := rfl
@[simp] theorem State.raise_TOTAL (code : FaultCode) : (s.raise code).TOTAL = none := rfl
@[simp] theorem State.raise_I (code : FaultCode) : (s.raise code).I = none := rfl
@[simp] theorem State.raise_CMD (code : FaultCode) : (s.raise code).CMD = s.CMD := rfl
@[simp] theorem State.raise_MSG_LEN (code : FaultCode) : (s.raise code).MSG_LEN = s.MSG_LEN := rfl
@[simp] theorem State.raise_STATUS (code : FaultCode) : (s.raise code).STATUS = .fault := rfl
@[simp] theorem State.raise_FAULT_CODE (code : FaultCode) : (s.raise code).FAULT_CODE = code := rfl
@[simp] theorem State.raise_DIGEST (code : FaultCode) : (s.raise code).DIGEST = none := rfl
@[simp] theorem State.raise_OP (code : FaultCode) : (s.raise code).OP = 0 := rfl
@[simp] theorem State.raise_TCTR (code : FaultCode) : (s.raise code).TCTR = 0 := rfl
@[simp] theorem State.raise_ABORT_PENDING (code : FaultCode) : (s.raise code).ABORT_PENDING = false := rfl
@[simp] theorem State.raise_MSG (code : FaultCode) : (s.raise code).MSG = s.MSG := rfl
@[simp] theorem State.raise_draw (code : FaultCode) : (s.raise code).draw = s.draw + 1 := rfl
@[simp] theorem State.raise_fu (code : FaultCode) : (s.raise code).fu = s.fu := rfl

/-! ### abandonment -/

@[simp] theorem State.abandon_H : s.abandon.H = Vector.replicate 8 none := rfl
@[simp] theorem State.abandon_wv : s.abandon.wv = Working.empty := rfl
@[simp] theorem State.abandon_W : s.abandon.W = Vector.replicate 64 none := rfl
@[simp] theorem State.abandon_T : s.abandon.T = Vector.replicate 72 none := rfl
@[simp] theorem State.abandon_B : s.abandon.B = Vector.replicate 64 none := rfl
@[simp] theorem State.abandon_LEN : s.abandon.LEN = s.LEN := rfl
@[simp] theorem State.abandon_L : s.abandon.L = none := rfl
@[simp] theorem State.abandon_PADBITS : s.abandon.PADBITS = none := rfl
@[simp] theorem State.abandon_TLEN : s.abandon.TLEN = none := rfl
@[simp] theorem State.abandon_TOTAL : s.abandon.TOTAL = none := rfl
@[simp] theorem State.abandon_I : s.abandon.I = none := rfl
@[simp] theorem State.abandon_CMD : s.abandon.CMD = s.CMD := rfl
@[simp] theorem State.abandon_MSG_LEN : s.abandon.MSG_LEN = s.MSG_LEN := rfl
@[simp] theorem State.abandon_STATUS : s.abandon.STATUS = .idle := rfl
@[simp] theorem State.abandon_FAULT_CODE : s.abandon.FAULT_CODE = .none := rfl
@[simp] theorem State.abandon_DIGEST : s.abandon.DIGEST = none := rfl
@[simp] theorem State.abandon_OP : s.abandon.OP = 0 := rfl
@[simp] theorem State.abandon_TCTR : s.abandon.TCTR = 0 := rfl
@[simp] theorem State.abandon_ABORT_PENDING : s.abandon.ABORT_PENDING = false := rfl
@[simp] theorem State.abandon_MSG : s.abandon.MSG = s.MSG := rfl
@[simp] theorem State.abandon_draw : s.abandon.draw = s.draw + 1 := rfl
@[simp] theorem State.abandon_fu : s.abandon.fu = s.fu := rfl

/-! ### an accepted START -/

@[simp] theorem State.begin_H : s.begin.H = Config.HINIT.map some := rfl
@[simp] theorem State.begin_wv : s.begin.wv = s.wv := rfl
@[simp] theorem State.begin_W : s.begin.W = s.W := rfl
@[simp] theorem State.begin_T : s.begin.T = s.T := rfl
@[simp] theorem State.begin_B : s.begin.B = s.B := rfl
@[simp] theorem State.begin_LEN : s.begin.LEN = some s.MSG_LEN := rfl
@[simp] theorem State.begin_L : s.begin.L = s.L := rfl
@[simp] theorem State.begin_PADBITS : s.begin.PADBITS = s.PADBITS := rfl
@[simp] theorem State.begin_TLEN : s.begin.TLEN = s.TLEN := rfl
@[simp] theorem State.begin_TOTAL : s.begin.TOTAL = s.TOTAL := rfl
@[simp] theorem State.begin_I : s.begin.I = some 0 := rfl
@[simp] theorem State.begin_CMD : s.begin.CMD = s.CMD := rfl
@[simp] theorem State.begin_MSG_LEN : s.begin.MSG_LEN = s.MSG_LEN := rfl
@[simp] theorem State.begin_STATUS : s.begin.STATUS = .busy := rfl
@[simp] theorem State.begin_FAULT_CODE : s.begin.FAULT_CODE = .none := rfl
@[simp] theorem State.begin_DIGEST : s.begin.DIGEST = none := rfl
@[simp] theorem State.begin_OP : s.begin.OP = 1 := rfl
@[simp] theorem State.begin_TCTR : s.begin.TCTR = 0 := rfl
@[simp] theorem State.begin_ABORT_PENDING : s.begin.ABORT_PENDING = false := rfl
@[simp] theorem State.begin_MSG : s.begin.MSG = s.MSG := rfl
@[simp] theorem State.begin_draw : s.begin.draw = s.draw := rfl
@[simp] theorem State.begin_fu : s.begin.fu = s.fu := rfl

/-! ### PAD's writes -/

@[simp] theorem State.padWrites_H (len : Nat) : (s.padWrites len).H = s.H := rfl
@[simp] theorem State.padWrites_wv (len : Nat) : (s.padWrites len).wv = s.wv := rfl
@[simp] theorem State.padWrites_W (len : Nat) : (s.padWrites len).W = s.W := rfl
@[simp] theorem State.padWrites_T (len : Nat) : (s.padWrites len).T = padTail len (s.fit64 .L (8 * len)) := rfl
@[simp] theorem State.padWrites_B (len : Nat) : (s.padWrites len).B = s.B := rfl
@[simp] theorem State.padWrites_LEN (len : Nat) : (s.padWrites len).LEN = s.LEN := rfl
@[simp] theorem State.padWrites_L (len : Nat) : (s.padWrites len).L = some (s.fit64 .L (8 * len)) := rfl
@[simp] theorem State.padWrites_PADBITS (len : Nat) : (s.padWrites len).PADBITS = some (BitVec.ofNat 9 (padBits (8 * len))) := rfl
@[simp] theorem State.padWrites_TLEN (len : Nat) : (s.padWrites len).TLEN = some (BitVec.ofNat 7 (tailLen len)) := rfl
@[simp] theorem State.padWrites_TOTAL (len : Nat) : (s.padWrites len).TOTAL = some (s.fit64 .TOTAL (len + tailLen len)) := rfl
@[simp] theorem State.padWrites_I (len : Nat) : (s.padWrites len).I = s.I := rfl
@[simp] theorem State.padWrites_CMD (len : Nat) : (s.padWrites len).CMD = s.CMD := rfl
@[simp] theorem State.padWrites_MSG_LEN (len : Nat) : (s.padWrites len).MSG_LEN = s.MSG_LEN := rfl
@[simp] theorem State.padWrites_STATUS (len : Nat) : (s.padWrites len).STATUS = s.STATUS := rfl
@[simp] theorem State.padWrites_FAULT_CODE (len : Nat) : (s.padWrites len).FAULT_CODE = s.FAULT_CODE := rfl
@[simp] theorem State.padWrites_DIGEST (len : Nat) : (s.padWrites len).DIGEST = s.DIGEST := rfl
@[simp] theorem State.padWrites_OP (len : Nat) : (s.padWrites len).OP = s.OP := rfl
@[simp] theorem State.padWrites_TCTR (len : Nat) : (s.padWrites len).TCTR = s.TCTR := rfl
@[simp] theorem State.padWrites_ABORT_PENDING (len : Nat) : (s.padWrites len).ABORT_PENDING = s.ABORT_PENDING := rfl
@[simp] theorem State.padWrites_MSG (len : Nat) : (s.padWrites len).MSG = s.MSG := rfl
@[simp] theorem State.padWrites_draw (len : Nat) : (s.padWrites len).draw = s.draw + 1 := rfl
@[simp] theorem State.padWrites_fu (len : Nat) : (s.padWrites len).fu = s.fu := rfl

/-! ### B filled -/

@[simp] theorem State.fillBlock_H (byte : Nat → Byte) : (s.fillBlock byte).H = s.H := rfl
@[simp] theorem State.fillBlock_wv (byte : Nat → Byte) : (s.fillBlock byte).wv = s.wv := rfl
@[simp] theorem State.fillBlock_W (byte : Nat → Byte) : (s.fillBlock byte).W = s.W := rfl
@[simp] theorem State.fillBlock_T (byte : Nat → Byte) : (s.fillBlock byte).T = s.T := rfl
@[simp] theorem State.fillBlock_B (byte : Nat → Byte) : (s.fillBlock byte).B = fullBlock byte := rfl
@[simp] theorem State.fillBlock_LEN (byte : Nat → Byte) : (s.fillBlock byte).LEN = s.LEN := rfl
@[simp] theorem State.fillBlock_L (byte : Nat → Byte) : (s.fillBlock byte).L = s.L := rfl
@[simp] theorem State.fillBlock_PADBITS (byte : Nat → Byte) : (s.fillBlock byte).PADBITS = s.PADBITS := rfl
@[simp] theorem State.fillBlock_TLEN (byte : Nat → Byte) : (s.fillBlock byte).TLEN = s.TLEN := rfl
@[simp] theorem State.fillBlock_TOTAL (byte : Nat → Byte) : (s.fillBlock byte).TOTAL = s.TOTAL := rfl
@[simp] theorem State.fillBlock_I (byte : Nat → Byte) : (s.fillBlock byte).I = s.I := rfl
@[simp] theorem State.fillBlock_CMD (byte : Nat → Byte) : (s.fillBlock byte).CMD = s.CMD := rfl
@[simp] theorem State.fillBlock_MSG_LEN (byte : Nat → Byte) : (s.fillBlock byte).MSG_LEN = s.MSG_LEN := rfl
@[simp] theorem State.fillBlock_STATUS (byte : Nat → Byte) : (s.fillBlock byte).STATUS = s.STATUS := rfl
@[simp] theorem State.fillBlock_FAULT_CODE (byte : Nat → Byte) : (s.fillBlock byte).FAULT_CODE = s.FAULT_CODE := rfl
@[simp] theorem State.fillBlock_DIGEST (byte : Nat → Byte) : (s.fillBlock byte).DIGEST = s.DIGEST := rfl
@[simp] theorem State.fillBlock_OP (byte : Nat → Byte) : (s.fillBlock byte).OP = 5 := rfl
@[simp] theorem State.fillBlock_TCTR (byte : Nat → Byte) : (s.fillBlock byte).TCTR = 0 := rfl
@[simp] theorem State.fillBlock_ABORT_PENDING (byte : Nat → Byte) : (s.fillBlock byte).ABORT_PENDING = s.ABORT_PENDING := rfl
@[simp] theorem State.fillBlock_MSG (byte : Nat → Byte) : (s.fillBlock byte).MSG = s.MSG := rfl
@[simp] theorem State.fillBlock_draw (byte : Nat → Byte) : (s.fillBlock byte).draw = s.draw := rfl
@[simp] theorem State.fillBlock_fu (byte : Nat → Byte) : (s.fillBlock byte).fu = s.fu := rfl

/-! ### the next window -/

@[simp] theorem State.advance_H : s.advance.H = s.H := rfl
@[simp] theorem State.advance_wv : s.advance.wv = s.wv := rfl
@[simp] theorem State.advance_W : s.advance.W = s.W := rfl
@[simp] theorem State.advance_T : s.advance.T = s.T := rfl
@[simp] theorem State.advance_B : s.advance.B = s.B := rfl
@[simp] theorem State.advance_LEN : s.advance.LEN = s.LEN := rfl
@[simp] theorem State.advance_L : s.advance.L = s.L := rfl
@[simp] theorem State.advance_PADBITS : s.advance.PADBITS = s.PADBITS := rfl
@[simp] theorem State.advance_TLEN : s.advance.TLEN = s.TLEN := rfl
@[simp] theorem State.advance_TOTAL : s.advance.TOTAL = s.TOTAL := rfl
@[simp] theorem State.advance_I : s.advance.I = some (s.fit64 .I (s.readI + 64)) := rfl
@[simp] theorem State.advance_CMD : s.advance.CMD = s.CMD := rfl
@[simp] theorem State.advance_MSG_LEN : s.advance.MSG_LEN = s.MSG_LEN := rfl
@[simp] theorem State.advance_STATUS : s.advance.STATUS = s.STATUS := rfl
@[simp] theorem State.advance_FAULT_CODE : s.advance.FAULT_CODE = s.FAULT_CODE := rfl
@[simp] theorem State.advance_DIGEST : s.advance.DIGEST = s.DIGEST := rfl
@[simp] theorem State.advance_OP : s.advance.OP = s.OP := rfl
@[simp] theorem State.advance_TCTR : s.advance.TCTR = s.TCTR := rfl
@[simp] theorem State.advance_ABORT_PENDING : s.advance.ABORT_PENDING = s.ABORT_PENDING := rfl
@[simp] theorem State.advance_MSG : s.advance.MSG = s.MSG := rfl
@[simp] theorem State.advance_draw : s.advance.draw = s.draw := rfl
@[simp] theorem State.advance_fu : s.advance.fu = s.fu := rfl

/-! ### a primitive's result -/

@[simp] theorem State.setResult_H (v : Word) : (s.setResult v).H = s.H := rfl
@[simp] theorem State.setResult_wv (v : Word) : (s.setResult v).wv = s.wv := rfl
@[simp] theorem State.setResult_W (v : Word) : (s.setResult v).W = s.W := rfl
@[simp] theorem State.setResult_T (v : Word) : (s.setResult v).T = s.T := rfl
@[simp] theorem State.setResult_B (v : Word) : (s.setResult v).B = s.B := rfl
@[simp] theorem State.setResult_LEN (v : Word) : (s.setResult v).LEN = s.LEN := rfl
@[simp] theorem State.setResult_L (v : Word) : (s.setResult v).L = s.L := rfl
@[simp] theorem State.setResult_PADBITS (v : Word) : (s.setResult v).PADBITS = s.PADBITS := rfl
@[simp] theorem State.setResult_TLEN (v : Word) : (s.setResult v).TLEN = s.TLEN := rfl
@[simp] theorem State.setResult_TOTAL (v : Word) : (s.setResult v).TOTAL = s.TOTAL := rfl
@[simp] theorem State.setResult_I (v : Word) : (s.setResult v).I = s.I := rfl
@[simp] theorem State.setResult_CMD (v : Word) : (s.setResult v).CMD = s.CMD := rfl
@[simp] theorem State.setResult_MSG_LEN (v : Word) : (s.setResult v).MSG_LEN = s.MSG_LEN := rfl
@[simp] theorem State.setResult_STATUS (v : Word) : (s.setResult v).STATUS = s.STATUS := rfl
@[simp] theorem State.setResult_FAULT_CODE (v : Word) : (s.setResult v).FAULT_CODE = s.FAULT_CODE := rfl
@[simp] theorem State.setResult_DIGEST (v : Word) : (s.setResult v).DIGEST = s.DIGEST := rfl
@[simp] theorem State.setResult_OP (v : Word) : (s.setResult v).OP = s.OP := rfl
@[simp] theorem State.setResult_TCTR (v : Word) : (s.setResult v).TCTR = s.TCTR := rfl
@[simp] theorem State.setResult_ABORT_PENDING (v : Word) : (s.setResult v).ABORT_PENDING = s.ABORT_PENDING := rfl
@[simp] theorem State.setResult_MSG (v : Word) : (s.setResult v).MSG = s.MSG := rfl
@[simp] theorem State.setResult_draw (v : Word) : (s.setResult v).draw = s.draw := rfl
@[simp] theorem State.setResult_fu (v : Word) : (s.setResult v).fu = { s.fu with result := some v } := rfl

/-! ### an operation taken from its port -/

@[simp] theorem State.taken_H : s.taken.H = s.H := rfl
@[simp] theorem State.taken_wv : s.taken.wv = s.wv := rfl
@[simp] theorem State.taken_W : s.taken.W = s.W := rfl
@[simp] theorem State.taken_T : s.taken.T = s.T := rfl
@[simp] theorem State.taken_B : s.taken.B = s.B := rfl
@[simp] theorem State.taken_LEN : s.taken.LEN = s.LEN := rfl
@[simp] theorem State.taken_L : s.taken.L = s.L := rfl
@[simp] theorem State.taken_PADBITS : s.taken.PADBITS = s.PADBITS := rfl
@[simp] theorem State.taken_TLEN : s.taken.TLEN = s.TLEN := rfl
@[simp] theorem State.taken_TOTAL : s.taken.TOTAL = s.TOTAL := rfl
@[simp] theorem State.taken_I : s.taken.I = s.I := rfl
@[simp] theorem State.taken_CMD : s.taken.CMD = none := rfl
@[simp] theorem State.taken_MSG_LEN : s.taken.MSG_LEN = s.MSG_LEN := rfl
@[simp] theorem State.taken_STATUS : s.taken.STATUS = s.STATUS := rfl
@[simp] theorem State.taken_FAULT_CODE : s.taken.FAULT_CODE = s.FAULT_CODE := rfl
@[simp] theorem State.taken_DIGEST : s.taken.DIGEST = s.DIGEST := rfl
@[simp] theorem State.taken_OP : s.taken.OP = s.OP := rfl
@[simp] theorem State.taken_TCTR : s.taken.TCTR = s.TCTR := rfl
@[simp] theorem State.taken_ABORT_PENDING : s.taken.ABORT_PENDING = s.ABORT_PENDING := rfl
@[simp] theorem State.taken_MSG : s.taken.MSG = s.MSG := rfl
@[simp] theorem State.taken_draw : s.taken.draw = s.draw := rfl
@[simp] theorem State.taken_fu : s.taken.fu = s.fu := rfl

/-! ### reset by the host -/

@[simp] theorem State.assertReset_H : s.assertReset.H = State.reset.H := rfl
@[simp] theorem State.assertReset_wv : s.assertReset.wv = State.reset.wv := rfl
@[simp] theorem State.assertReset_W : s.assertReset.W = State.reset.W := rfl
@[simp] theorem State.assertReset_T : s.assertReset.T = State.reset.T := rfl
@[simp] theorem State.assertReset_B : s.assertReset.B = State.reset.B := rfl
@[simp] theorem State.assertReset_LEN : s.assertReset.LEN = State.reset.LEN := rfl
@[simp] theorem State.assertReset_L : s.assertReset.L = State.reset.L := rfl
@[simp] theorem State.assertReset_PADBITS : s.assertReset.PADBITS = State.reset.PADBITS := rfl
@[simp] theorem State.assertReset_TLEN : s.assertReset.TLEN = State.reset.TLEN := rfl
@[simp] theorem State.assertReset_TOTAL : s.assertReset.TOTAL = State.reset.TOTAL := rfl
@[simp] theorem State.assertReset_I : s.assertReset.I = State.reset.I := rfl
@[simp] theorem State.assertReset_CMD : s.assertReset.CMD = State.reset.CMD := rfl
@[simp] theorem State.assertReset_MSG_LEN : s.assertReset.MSG_LEN = s.MSG_LEN := rfl
@[simp] theorem State.assertReset_STATUS : s.assertReset.STATUS = State.reset.STATUS := rfl
@[simp] theorem State.assertReset_FAULT_CODE : s.assertReset.FAULT_CODE = State.reset.FAULT_CODE := rfl
@[simp] theorem State.assertReset_DIGEST : s.assertReset.DIGEST = State.reset.DIGEST := rfl
@[simp] theorem State.assertReset_OP : s.assertReset.OP = State.reset.OP := rfl
@[simp] theorem State.assertReset_TCTR : s.assertReset.TCTR = State.reset.TCTR := rfl
@[simp] theorem State.assertReset_ABORT_PENDING : s.assertReset.ABORT_PENDING = State.reset.ABORT_PENDING := rfl
@[simp] theorem State.assertReset_MSG : s.assertReset.MSG = s.MSG := rfl
@[simp] theorem State.assertReset_draw : s.assertReset.draw = s.draw + 1 := rfl
@[simp] theorem State.assertReset_fu : s.assertReset.fu = s.fu := rfl

end Sys2Proof.Machine
end

