-- ==== Sys2Proof/Laws/Operands.lean ====
section
/-! SUPPORT. What a read of an operand gives where the register holds a value, and what the dispatch step can do. -/

namespace Sys2Proof.Machine

variable (s : State)

@[simp] theorem held_some {w : Nat} (slot : Slot) (v : BitVec w) : held s slot (some v) = v := rfl

theorem heldAt_of {w n : Nat} {slot : Slot} {r : Vector (Option (BitVec w)) n} {i : Nat} {v : BitVec w}
    (h : r[i]? = some (some v)) : heldAt s slot r i = v := by
  simp [heldAt, h]

theorem State.readH_of {s : State} {i : Nat} {v : Word} (h : s.H[i]? = some (some v)) : s.readH i = v := heldAt_of s h

theorem State.readW_of {s : State} {i : Nat} {v : Word} (h : s.W[i]? = some (some v)) : s.readW i = v := heldAt_of s h

theorem State.readT_of {s : State} {i : Nat} {v : Byte} (h : s.T[i]? = some (some v)) : s.readT i = v := heldAt_of s h

theorem State.readB_of {s : State} {i : Nat} {v : Byte} (h : s.B[i]? = some (some v)) : s.readB i = v := heldAt_of s h

theorem State.readLEN_of {s : State} {n : U64} (h : s.LEN = some n) : s.readLEN = n.toNat := by simp [State.readLEN, h]

theorem State.readI_of {s : State} {n : U64} (h : s.I = some n) : s.readI = n.toNat := by simp [State.readI, h]

theorem State.readTOTAL_of {s : State} {n : U64} (h : s.TOTAL = some n) : s.readTOTAL = n.toNat := by
  simp [State.readTOTAL, h]

theorem State.readVars_of {s : State} {v : Vars} (h : s.wv = v.held) : s.readVars = v := by
  simp [State.readVars, h, Vars.held]

/-- A number that fits is written as it is. -/
theorem State.fit64_of_lt (s : State) (slot : Slot) {v : Nat} (h : v < 2 ^ 64) : s.fit64 slot v = BitVec.ofNat 64 v :=
  if_pos h

theorem State.padWrites_L_of_lt {len : Nat} (h : 8 * len < 2 ^ 64) :
    (s.padWrites len).L = some (BitVec.ofNat 64 (8 * len)) :=
  congrArg some (if_pos h)

/-- The length bytes of the tail of an admitted length are those of `8 × LEN` (30_encoding.md R73). -/
theorem State.padWrites_T_of_lt {len : Nat} (h : 8 * len < 2 ^ 64) :
    (s.padWrites len).T = padTail len (bitLength len) :=
  congrArg (padTail len) (if_pos h)

theorem State.padWrites_TOTAL_of_lt {len : Nat} (h : len + tailLen len < 2 ^ 64) :
    (s.padWrites len).TOTAL = some (BitVec.ofNat 64 (len + tailLen len)) :=
  congrArg some (if_pos h)

theorem State.advance_I_of_lt (h : s.readI + 64 < 2 ^ 64) : s.advance.I = some (BitVec.ofNat 64 (s.readI + 64)) :=
  congrArg some (if_pos h)

/-- A byte of the message below LEN is the memory's (20_memory.md R52). -/
theorem State.readMSG_of {s : State} {n : U64} {off : Nat} (h : s.LEN = some n) (ho : off < n.toNat) :
    s.readMSG off = Memory.read s.MSG off := by
  simp [State.readMSG, State.readLEN_of h, ho]

theorem padTail_get? (len : Nat) (l : U64) (j : Nat) (h : j < 72) :
    (padTail len l)[j]? = some (if j < tailLen len then some (tailByte len l j) else none) := by
  unfold padTail
  simp [h]

theorem fullBlock_get? (byte : Nat → Byte) (j : Nat) (h : j < 64) : (fullBlock byte)[j]? = some (some (byte j)) := by
  unfold fullBlock
  simp [h]

theorem fullBlock_congr {f g : Nat → Byte} (h : ∀ j, j < 64 → f j = g j) : fullBlock f = fullBlock g := by
  apply Vector.ext
  intro j hj
  simp [fullBlock, h j hj]

/-- All that the dispatch step can do, for a window offset `i` (44_control.md R171). -/
theorem State.dispatch_cases (s : State) (i : Nat) :
    (s.ABORT_PENDING = true ∧ s.dispatch i = s.abandon) ∨
      (s.ABORT_PENDING = false ∧ i = s.readTOTAL ∧ s.dispatch i = s.goTo .emit) ∨
      (s.ABORT_PENDING = false ∧ i ≠ s.readTOTAL ∧ s.readTOTAL < i + 64 ∧
        s.dispatch i = s.raise .invariantViolation) ∨
      (s.ABORT_PENDING = false ∧ i + 64 ≤ s.readTOTAL ∧ s.dispatch i = s.goTo (selectBlock i s.readLEN)) := by
  unfold State.dispatch
  by_cases ha : s.ABORT_PENDING = true
  · exact .inl ⟨ha, by simp [ha]⟩
  · have hb : s.ABORT_PENDING = false := by simpa using ha
    by_cases h1 : i = s.readTOTAL
    · exact .inr (.inl ⟨hb, h1, by simp [hb, h1]⟩)
    · by_cases h2 : s.readTOTAL < i + 64
      · exact .inr (.inr (.inl ⟨hb, h1, h2, by simp [hb, h1, h2]⟩))
      · exact .inr (.inr (.inr ⟨hb, by omega, by simp [hb, h1, h2]⟩))

/-- The selected operation is one of the three, by the place of the window (42_padder.md R128). -/
theorem selectBlock_cases (i len : Nat) :
    (i + 64 ≤ len ∧ selectBlock i len = .blkMsg) ∨ (len ≤ i ∧ selectBlock i len = .blkTail) ∨
      (i < len ∧ len < i + 64 ∧ selectBlock i len = .blkMerge) := by
  unfold selectBlock
  by_cases h1 : i + 64 ≤ len
  · exact .inl ⟨h1, by simp [h1]⟩
  · by_cases h2 : len ≤ i
    · exact .inr (.inl ⟨h2, by simp [h1, h2]⟩)
    · exact .inr (.inr ⟨by omega, by omega, by simp [h1, h2]⟩)

end Sys2Proof.Machine
end

