-- ==== Sys2Proof/Laws/Faults.lean ====
section
/-! SUPPORT. What fault entry and abandonment leave, said once, and facts about held registers. -/

namespace Sys2Proof.Machine

/-- Fault entry (60_exceptions.md R205). -/
theorem State.raise_entered (s : State) (c : FaultCode) : FaultEntered c s (s.raise c) := by
  simp [FaultEntered, DataForgotten, HostSideKept]

/-- Abandonment (44_control.md R172). -/
theorem State.abandon_entered (s : State) : Abandoned s s.abandon := by
  simp [Abandoned, DataForgotten, HostSideKept]

theorem FirstHeld.mono {α : Type} {n j k : Nat} {r : Vector (Option α) n} (h : FirstHeld r k) (hj : j ≤ k) :
    FirstHeld r j :=
  fun i hi => h i (by omega)

/-- Writing the next element. -/
theorem FirstHeld.set {α : Type} {n k : Nat} {r : Vector (Option α) n} (v : α) (h : FirstHeld r k) (hk : k < n) :
    FirstHeld (r.setIfInBounds k (some v)) (k + 1) := by
  intro i hi
  by_cases he : i = k
  · subst he
    exact ⟨v, by simp [hk]⟩
  · obtain ⟨w, hw⟩ := h i (by omega)
    exact ⟨w, by rw [Vector.getElem?_setIfInBounds_ne (by omega)]; exact hw⟩

theorem firstHeld_fullBlock (b : Nat → Byte) : FirstHeld (fullBlock b) 64 := fun i hi => ⟨_, fullBlock_get? b i hi⟩

theorem firstHeld_HINIT : FirstHeld (Config.HINIT.map some) 8 := fun i hi => ⟨Config.HINIT[i], by simp [hi]⟩

/-- `be32` as a number (00_scope.md R11). -/
theorem be32_eq (b0 b1 b2 b3 : Byte) :
    be32 b0 b1 b2 b3 = BitVec.ofNat 32 (b0.toNat * 2 ^ 24 + b1.toNat * 2 ^ 16 + b2.toNat * 2 ^ 8 + b3.toNat) := by
  have h1 := b1.isLt
  have h2 := b2.isLt
  have h3 := b3.isLt
  apply BitVec.eq_of_toNat_eq
  unfold be32
  simp only [BitVec.toNat_append, BitVec.toNat_ofNat]
  rw [Nat.mod_eq_of_lt (by omega), ← Nat.shiftLeft_add_eq_or_of_lt (by omega), ← Nat.shiftLeft_add_eq_or_of_lt (by omega),
    ← Nat.shiftLeft_add_eq_or_of_lt (by omega)]
  simp only [Nat.shiftLeft_eq]
  omega

/-- The registers a whole hash state fills, read. -/
theorem State.readH_map {t : State} {h : Vector Word 8} (ht : t.H = h.map some) (i : Nat) (hi : i < 8) :
    t.readH i = h[i] :=
  State.readH_of (by rw [ht]; simp [hi])

end Sys2Proof.Machine
end

