-- ==== Sys2Proof/Laws/Memory.lean ====
section
/-! SUPPORT. The message memory: read after write, other bytes left alone, the canonical form kept. -/

namespace Sys2Proof.Machine

@[simp] theorem Memory.read_nil (off : Nat) : Memory.read [] off = Config.blankByte := rfl

/-- No entry at or below `off`: the byte there is the blank one. -/
theorem Memory.read_of_all_above (m : Memory) (off : Nat) (h : ∀ e ∈ m, off < e.1) :
    Memory.read m off = Config.blankByte := by
  induction m with
  | nil => rfl
  | cons e m ih =>
    obtain ⟨k, c⟩ := e
    have hk : off < k := h (k, c) (by simp)
    simp only [Memory.read, show ¬k = off by omega, if_false]
    exact ih fun e he => h e (by simp [he])

/-- The canonical form, entry by entry. -/
theorem Memory.wf_cons (k : Nat) (c : Byte) (m : Memory) :
    Memory.wf ((k, c) :: m) = true ↔
      k < 2 ^ 64 ∧ c ≠ Config.blankByte ∧ (∀ e ∈ m, k < e.1) ∧ Memory.wf m = true := by
  simp [Memory.wf, and_assoc]

/-- Every entry of a written memory is an old one or the written one. -/
theorem Memory.mem_write {m : Memory} {off : Nat} {v : Byte} {e : Host.Cell} (h : e ∈ Memory.write m off v) :
    e ∈ m ∨ e = (off, v) := by
  induction m with
  | nil =>
    simp only [Memory.write] at h
    split at h <;> simp_all
  | cons x m ih =>
    obtain ⟨k, c⟩ := x
    simp only [Memory.write] at h
    split at h
    · split at h
      · exact .inl h
      · simp only [List.mem_cons] at h ⊢
        tauto
    · split at h
      · split at h
        · exact .inl (by simp [h])
        · simp only [List.mem_cons] at h ⊢
          tauto
      · simp only [List.mem_cons] at h ⊢
        rcases h with h | h
        · exact .inl (.inl h)
        · rcases ih h with h | h <;> tauto

/-- Writing keeps the canonical form. -/
theorem Memory.write_wf {m : Memory} {off : Nat} (v : Byte) (h : Memory.wf m = true) (ho : off < 2 ^ 64) :
    Memory.wf (Memory.write m off v) = true := by
  induction m with
  | nil =>
    simp only [Memory.write]
    split
    · rfl
    · simp_all [Memory.wf]
  | cons x m ih =>
    obtain ⟨k, c⟩ := x
    obtain ⟨hk, hc, hall, hm⟩ := (Memory.wf_cons k c m).1 h
    simp only [Memory.write]
    split
    · split
      · exact h
      · rename_i hlt hv
        refine (Memory.wf_cons _ _ _).2 ⟨ho, hv, ?_, h⟩
        intro e he
        rcases List.mem_cons.1 he with rfl | he
        · exact hlt
        · exact Nat.lt_trans hlt (hall e he)
    · split
      · split
        · exact hm
        · rename_i heq hv
          exact (Memory.wf_cons _ _ _).2 ⟨ho, hv, fun e he => heq ▸ hall e he, hm⟩
      · refine (Memory.wf_cons _ _ _).2 ⟨hk, hc, ?_, ih hm⟩
        intro e he
        rcases Memory.mem_write he with he | rfl
        · exact hall e he
        · simp only
          omega

/-- Reading after writing: the written byte at its offset, every other byte as before. -/
theorem Memory.read_write {m : Memory} (h : Memory.wf m = true) (off : Nat) (v : Byte) (j : Nat) :
    Memory.read (Memory.write m off v) j = if j = off then v else Memory.read m j := by
  induction m with
  | nil =>
    by_cases hj : j = off
    · subst hj
      simp only [Memory.write, if_true]
      split
      · rename_i hv
        exact hv.symm
      · simp [Memory.read]
    · have hj' : ¬off = j := fun e => hj e.symm
      simp only [Memory.write, if_neg hj]
      split <;> simp [Memory.read, hj']
  | cons x m ih =>
    obtain ⟨k, c⟩ := x
    obtain ⟨-, -, hall, hm⟩ := (Memory.wf_cons k c m).1 h
    simp only [Memory.write]
    split
    · rename_i hlt
      have habove : Memory.read ((k, c) :: m) off = Config.blankByte :=
        Memory.read_of_all_above _ _ (by
          intro e he
          rcases List.mem_cons.1 he with rfl | he
          · exact hlt
          · exact Nat.lt_trans hlt (hall e he))
      split
      · rename_i hv
        by_cases hj : j = off
        · rw [if_pos hj, hj, habove, hv]
        · rw [if_neg hj]
      · by_cases hj : j = off
        · simp [Memory.read, hj]
        · have hj' : ¬off = j := fun e => hj e.symm
          simp [Memory.read, hj, hj']
    · split
      · rename_i heq
        subst heq
        have habove : Memory.read m off = Config.blankByte := Memory.read_of_all_above _ _ hall
        split
        · rename_i hv
          by_cases hj : j = off
          · rw [if_pos hj, hj, habove, hv]
          · have hj' : ¬off = j := fun e => hj e.symm
            simp [Memory.read, hj, hj']
        · by_cases hj : j = off
          · simp [Memory.read, hj]
          · have hj' : ¬off = j := fun e => hj e.symm
            simp [Memory.read, hj, hj']
      · rename_i h1 h2
        simp only [Memory.read, ih hm]
        by_cases hj : k = j
        · have : ¬j = off := by omega
          simp [hj, this]
        · simp [hj]

/-- Filling keeps the canonical form, within the 64-bit offsets. -/
theorem Memory.writeList_wf (vs : List Byte) :
    ∀ (m : Memory) (off : Nat), Memory.wf m = true → off + vs.length ≤ 2 ^ 64 → Memory.wf (Memory.writeList m off vs) = true := by
  induction vs with
  | nil => exact fun m off h _ => h
  | cons v vs ih =>
    intro m off h ho
    simp only [List.length_cons] at ho
    exact ih _ _ (Memory.write_wf v h (by omega)) (by omega)

/-- Reading after filling: the filled bytes, every other byte as before. -/
theorem Memory.read_writeList (vs : List Byte) :
    ∀ (m : Memory) (off : Nat), Memory.wf m = true → off + vs.length ≤ 2 ^ 64 → ∀ j,
      Memory.read (Memory.writeList m off vs) j =
        if off ≤ j ∧ j < off + vs.length then vs.getD (j - off) 0 else Memory.read m j := by
  induction vs with
  | nil =>
    intro m off _ _ j
    simp only [Memory.writeList, List.length_nil]
    rw [if_neg (by omega)]
  | cons v vs ih =>
    intro m off h ho j
    simp only [List.length_cons] at ho ⊢
    simp only [Memory.writeList]
    rw [ih _ _ (Memory.write_wf v h (by omega)) (by omega), Memory.read_write h]
    by_cases hj : j = off
    · subst hj
      rw [if_neg (by omega), if_pos rfl, if_pos (by omega)]
      simp
    · rw [if_neg hj]
      by_cases hin : off + 1 ≤ j ∧ j < off + 1 + vs.length
      · rw [if_pos hin, if_pos (by omega)]
        obtain ⟨d, rfl⟩ : ∃ d, j = off + 1 + d := ⟨j - (off + 1), by omega⟩
        rw [show off + 1 + d - off = d + 1 by omega, show off + 1 + d - (off + 1) = d by omega]
        simp
      · rw [if_neg hin, if_neg (by omega)]

/-- The memory at reset has the canonical form. -/
theorem Memory.wf_reset : Memory.wf State.reset.MSG = true := rfl

end Sys2Proof.Machine
end

