-- ==== Sys2Proof/Laws/Padding.lean ====
section
/-! SUPPORT. The arithmetic of the padding (42_padder.md R121 to R124). -/

namespace Sys2Proof.Machine

/-- `pad_bits` by the residue of the length (R121). -/
theorem padBits_eq (len : Nat) : padBits (8 * len) = 8 * ((119 - len % 64) % 64) := by
  unfold padBits
  omega

/-- TLEN by the residue of the length (R122). -/
theorem tailLen_eq (len : Nat) : tailLen len = if len % 64 ≤ 55 then 64 - len % 64 else 128 - len % 64 := by
  unfold tailLen
  rw [padBits_eq]
  split <;> omega

theorem tailLen_bounds (len : Nat) : 9 ≤ tailLen len ∧ tailLen len ≤ 72 := by
  rw [tailLen_eq]
  split <;> omega

/-- The padded stream is a whole number of blocks, at least one (R124). -/
theorem total_mod (len : Nat) : (len + tailLen len) % 64 = 0 ∧ 64 ≤ len + tailLen len := by
  rw [tailLen_eq]
  split <;> omega

/-- The post-condition PAD checks (R124 a). -/
theorem padCheck (len : Nat) : (8 * len + 8 * tailLen len) % 512 = 0 := by
  have := (total_mod len).1
  omega

theorem total_lt (len : Nat) (h : len < 2 ^ 61) : len + tailLen len < 2 ^ 62 := by
  have := (tailLen_bounds len).2
  omega

end Sys2Proof.Machine
end

