-- ==== Sys2Proof/Laws/PerInstr.lean ====
section
/-! SUPPORT. Statements about every operation, one lemma per constructor. -/

/-- The word of an operation fits the width of its format (30_encoding.md R80). -/
def Sys2Proof.Laws.Width.Statement (i : Sys2Proof.Instr) : Prop :=
  Sys2Proof.encode i < 2 ^ i.format.width

theorem Sys2Proof.Laws.Width.cmdNone : Sys2Proof.Laws.Width.Statement .cmdNone := by
  unfold Sys2Proof.Laws.Width.Statement
  decide

theorem Sys2Proof.Laws.Width.start : Sys2Proof.Laws.Width.Statement .start := by
  unfold Sys2Proof.Laws.Width.Statement
  decide

theorem Sys2Proof.Laws.Width.abort : Sys2Proof.Laws.Width.Statement .abort := by
  unfold Sys2Proof.Laws.Width.Statement
  decide

theorem Sys2Proof.Laws.Width.cmdReserved : Sys2Proof.Laws.Width.Statement .cmdReserved := by
  unfold Sys2Proof.Laws.Width.Statement
  decide

theorem Sys2Proof.Laws.Width.idle : Sys2Proof.Laws.Width.Statement .idle := by
  unfold Sys2Proof.Laws.Width.Statement
  decide

theorem Sys2Proof.Laws.Width.pad : Sys2Proof.Laws.Width.Statement .pad := by
  unfold Sys2Proof.Laws.Width.Statement
  decide

theorem Sys2Proof.Laws.Width.blkMsg : Sys2Proof.Laws.Width.Statement .blkMsg := by
  unfold Sys2Proof.Laws.Width.Statement
  decide

theorem Sys2Proof.Laws.Width.blkTail : Sys2Proof.Laws.Width.Statement .blkTail := by
  unfold Sys2Proof.Laws.Width.Statement
  decide

theorem Sys2Proof.Laws.Width.blkMerge : Sys2Proof.Laws.Width.Statement .blkMerge := by
  unfold Sys2Proof.Laws.Width.Statement
  decide

theorem Sys2Proof.Laws.Width.loadw : ∀ t : BitVec 4, Sys2Proof.Laws.Width.Statement (.loadw t) := by
  unfold Sys2Proof.Laws.Width.Statement
  decide

theorem Sys2Proof.Laws.Width.expand : ∀ t : BitVec 6, Sys2Proof.Laws.Width.Statement (.expand t) := by
  unfold Sys2Proof.Laws.Width.Statement
  decide

theorem Sys2Proof.Laws.Width.initv : Sys2Proof.Laws.Width.Statement .initv := by
  unfold Sys2Proof.Laws.Width.Statement
  decide

theorem Sys2Proof.Laws.Width.round : ∀ t : BitVec 6, Sys2Proof.Laws.Width.Statement (.round t) := by
  unfold Sys2Proof.Laws.Width.Statement
  decide

theorem Sys2Proof.Laws.Width.fold : Sys2Proof.Laws.Width.Statement .fold := by
  unfold Sys2Proof.Laws.Width.Statement
  decide

theorem Sys2Proof.Laws.Width.next : Sys2Proof.Laws.Width.Statement .next := by
  unfold Sys2Proof.Laws.Width.Statement
  decide

theorem Sys2Proof.Laws.Width.emit : Sys2Proof.Laws.Width.Statement .emit := by
  unfold Sys2Proof.Laws.Width.Statement
  decide

theorem Sys2Proof.Laws.Width.rotr : Sys2Proof.Laws.Width.Statement .rotr := by
  unfold Sys2Proof.Laws.Width.Statement
  decide

theorem Sys2Proof.Laws.Width.shr : Sys2Proof.Laws.Width.Statement .shr := by
  unfold Sys2Proof.Laws.Width.Statement
  decide

theorem Sys2Proof.Laws.Width.ch : Sys2Proof.Laws.Width.Statement .ch := by
  unfold Sys2Proof.Laws.Width.Statement
  decide

theorem Sys2Proof.Laws.Width.maj : Sys2Proof.Laws.Width.Statement .maj := by
  unfold Sys2Proof.Laws.Width.Statement
  decide

theorem Sys2Proof.Laws.Width.bsig0 : Sys2Proof.Laws.Width.Statement .bsig0 := by
  unfold Sys2Proof.Laws.Width.Statement
  decide

theorem Sys2Proof.Laws.Width.bsig1 : Sys2Proof.Laws.Width.Statement .bsig1 := by
  unfold Sys2Proof.Laws.Width.Statement
  decide

theorem Sys2Proof.Laws.Width.ssig0 : Sys2Proof.Laws.Width.Statement .ssig0 := by
  unfold Sys2Proof.Laws.Width.Statement
  decide

theorem Sys2Proof.Laws.Width.ssig1 : Sys2Proof.Laws.Width.Statement .ssig1 := by
  unfold Sys2Proof.Laws.Width.Statement
  decide
end

