-- ==== Sys2Proof/Laws/Step.lean ====
section
/-! SUPPORT. What a step and the operations other than micro-operations can do, said once. -/

namespace Sys2Proof.Machine

theorem decode_command (c : BitVec 2) : decode .c c.toNat = .ok (decodeC c) := by revert c; decide

theorem decodeC_format (c : BitVec 2) : (decodeC c).format = .c := by revert c; decide

/-- Where no command waits, taking changes nothing. -/
theorem State.taken_of_none {s : State} (hc : s.CMD = none) : s.taken = s := by
  unfold State.taken
  rw [← hc]

/-- A waiting command is what the next step takes (44_control.md R160). -/
theorem step_of_command {s : State} {c : BitVec 2} (hc : s.CMD = some c) : step s = exec (decodeC c) s.taken := by
  unfold step
  rw [show s.fetch = (.c, c.toNat) by simp [State.fetch, hc]]
  simp only [decode_command]

/-- What a step can do, if it answers a next state: it executed, after taking it from its port, a host command, the
micro-operation a BUSY core's `pc` names, or IDLE. -/
theorem step_cases {s t : State} (h : step s = .next t) :
    ∃ i, exec i s.taken = .next t ∧
      (i.format = .c ∨ i = .idle ∨ (s.CMD = none ∧ s.STATUS = .busy ∧ decodeU s.OP s.TCTR = .ok i)) := by
  cases hc : s.CMD with
  | some c =>
    rw [step_of_command hc] at h
    exact ⟨_, h, .inl (decodeC_format c)⟩
  | none =>
    unfold step at h
    by_cases hb : s.STATUS = .busy
    · rw [show s.fetch = (.u, microWord s.OP s.TCTR) by simp [State.fetch, hc, hb]] at h
      simp only [decode_microWord] at h
      cases hd : decodeU s.OP s.TCTR with
      | ok i =>
        rw [hd] at h
        exact ⟨i, h, .inr (.inr ⟨rfl, hb, rfl⟩)⟩
      | reject r =>
        rw [hd] at h
        cases h
    · rw [show s.fetch = (.u, encode .idle) by simp [State.fetch, hc, hb]] at h
      exact ⟨.idle, h, .inr (.inl rfl)⟩

/-- All that a primitive can do: drive the result wire (41_bit_primitives.md). -/
theorem exec_function (i : Instr) (s : State) (h : i.format = .f) : ∃ v, exec i s = .next (s.setResult v) := by
  cases i <;> first | exact ⟨_, rfl⟩ | (simp [Instr.format] at h)

/-- All that a host command can do (44_control.md R160 to R163). -/
theorem exec_command (i : Instr) (s : State) (h : i.format = .c) :
    exec i s = .next s ∨ (s.STATUS = .busy ∧ exec i s = .next { s with ABORT_PENDING := true }) ∨
      (s.STATUS ≠ .busy ∧ exec i s = .next (s.raise .inputTooLarge)) ∨
      (s.STATUS ≠ .busy ∧ s.MSG_LEN.toNat < 2 ^ 61 ∧ exec i s = .next s.begin) := by
  cases i
  case cmdNone => exact .inl rfl
  case cmdReserved => exact .inl rfl
  case start =>
    simp only [exec, execStart]
    by_cases hb : s.STATUS = .busy
    · exact .inl (by simp [hb])
    · by_cases hl : 2 ^ 61 ≤ s.MSG_LEN.toNat
      · exact .inr (.inr (.inl ⟨hb, by rw [if_neg hb, if_pos hl]⟩))
      · exact .inr (.inr (.inr ⟨hb, by omega, by rw [if_neg hb, if_neg hl]⟩))
  case abort =>
    simp only [exec, execAbort]
    by_cases hb : s.STATUS = .busy
    · exact .inr (.inl ⟨hb, by simp [hb]⟩)
    · exact .inl (by simp [hb])
  all_goals simp [Instr.format] at h

/-- A host command always completes (44_control.md R160 to R163). -/
theorem exec_command_completes (i : Instr) (s : State) (h : i.format = .c) : ∃ t, exec i s = .next t := by
  obtain h | ⟨-, h⟩ | ⟨-, h⟩ | ⟨-, -, h⟩ := exec_command i s h <;> exact ⟨_, h⟩

end Sys2Proof.Machine
end

