-- ==== Sys2Proof/Laws/Run.lean ====
section
/-! SUPPORT. Runs of steps: one after another, and the step of an undisturbed BUSY core. -/

namespace Sys2Proof.Machine

/-- An undisturbed BUSY core performs the micro-operation its `pc` names (44_control.md R170). -/
theorem step_of_busy {s : State} {i : Instr} (h : Undisturbed s) (hb : s.STATUS = .busy)
    (hd : decodeU s.OP s.TCTR = .ok i) : step s = exec i s := by
  have hc : s.CMD = none := h
  unfold step
  rw [show s.fetch = (.u, microWord s.OP s.TCTR) by simp [State.fetch, hc, hb]]
  simp only [decode_microWord, hd, State.taken_of_none hc]

theorem run_succ {s t : State} {k : Nat} (h : step s = .next t) :
    Host.Core.run core (k + 1) s = Host.Core.run core k t := by
  have h' : core.step s = .next t := h
  simp only [Host.Core.run, h']

theorem run_one {s t : State} (h : step s = .next t) : Host.Core.run core 1 s = .next t := by
  rw [run_succ h]
  rfl

/-- A run that answers a next state begins with a step that does. -/
theorem run_succ_inv {s u : State} {k : Nat} (h : Host.Core.run core (k + 1) s = .next u) :
    ∃ t, step s = .next t ∧ Host.Core.run core k t = .next u := by
  cases hs : step s with
  | next t =>
    rw [run_succ hs] at h
    exact ⟨t, rfl, h⟩
  | fault r =>
    have h' : core.step s = .fault r := hs
    simp only [Host.Core.run, h'] at h
    cases h
  | refused r =>
    have h' : core.step s = .refused r := hs
    simp only [Host.Core.run, h'] at h
    cases h

theorem run_trans {a b : Nat} {s t u : State} (h1 : Host.Core.run core a s = .next t)
    (h2 : Host.Core.run core b t = .next u) : Host.Core.run core (a + b) s = .next u := by
  induction a generalizing s with
  | zero =>
    rw [Nat.zero_add]
    cases h1
    exact h2
  | succ a ih =>
    obtain ⟨s', hs, hr⟩ := run_succ_inv h1
    rw [show a + 1 + b = (a + b) + 1 by omega, run_succ hs]
    exact ih hr

/-- All that presenting a command can do: it waits on the port, after the one that waited, if any, has been taken. -/
theorem State.present_cases {s t : State} {c : BitVec 2} (h : s.present c = .next t) :
    ∃ u, (u = s ∧ s.CMD = none ∨ step s = .next u) ∧ t = { u with CMD := some c } := by
  unfold State.present at h
  split at h
  · cases h
    exact ⟨s, .inl ⟨rfl, ‹_›⟩, rfl⟩
  · split at h
    · cases h
      exact ⟨_, .inr ‹_›, rfl⟩
    · cases h
    · cases h

theorem Performs.append {a b : List Instr} :
    ∀ {s t u : State}, Performs s a t → Performs t b u → Performs s (a ++ b) u := by
  induction a with
  | nil =>
    intro s t u h1 h2
    cases h1
    exact h2
  | cons i a ih =>
    intro s t u h1 h2
    obtain ⟨hb, hd, v, hs, hp⟩ := h1
    exact ⟨hb, hd, v, hs, ih hp h2⟩

end Sys2Proof.Machine
end

