-- ==== Sys2Proof/Laws/Schedule.lean ====
section
/-! SUPPORT. The reference schedule and rounds as recurrences (43_compressor.md R143, R145). -/

namespace Sys2Proof.Machine

variable (blk : Nat → Byte)

theorem scheduleRev_getD (k : Nat) : ∀ j, j < k → (scheduleRev blk k).getD j 0 = scheduleWord blk (k - 1 - j) := by
  induction k with
  | zero => exact fun j hj => absurd hj (by omega)
  | succ k ih =>
    intro j hj
    cases j with
    | zero => rfl
    | succ j =>
      have hj' : (scheduleRev blk (k + 1)).getD (j + 1) 0 = (scheduleRev blk k).getD j 0 := rfl
      rw [hj', ih j (by omega), show k - 1 - j = k + 1 - 1 - (j + 1) by omega]

variable {blk} {t : Nat}

/-- R143, the first sixteen words. -/
theorem scheduleWord_lt (h : t < 16) :
    scheduleWord blk t = be32 (blk (4 * t)) (blk (4 * t + 1)) (blk (4 * t + 2)) (blk (4 * t + 3)) := by
  simp [scheduleWord, scheduleRev, scheduleStep, h]

/-- R143, the derived words. -/
theorem scheduleWord_ge (h : 16 ≤ t) :
    scheduleWord blk t =
      expandWord (scheduleWord blk (t - 2)) (scheduleWord blk (t - 7)) (scheduleWord blk (t - 15))
        (scheduleWord blk (t - 16)) := by
  rw [scheduleWord, scheduleRev, scheduleStep, if_neg (by omega), scheduleRev_getD _ _ _ (by omega), scheduleRev_getD _ _ _ (by omega),
    scheduleRev_getD _ _ _ (by omega), scheduleRev_getD _ _ _ (by omega)]
  simp only [List.getD_cons_zero, show t - 1 - 1 = t - 2 by omega, show t - 1 - 6 = t - 7 by omega,
    show t - 1 - 14 = t - 15 by omega, show t - 1 - 15 = t - 16 by omega]

theorem roundsUpTo_succ (hin : Vector Word 8) (k : Nat) :
    roundsUpTo hin blk (k + 1) =
      roundUpdate (roundsUpTo hin blk k) (Config.kAt (BitVec.ofNat 6 k)) (scheduleWord blk k) := by
  rw [roundsUpTo]

end Sys2Proof.Machine
end

