-- ==== Sys2Proof/Tests/Slice0.lean ====
section
/-! SUPPORT. The model's own tests, with expected values from spec/95_test_vectors.md and the worked examples of the rules, and for
every obligation with hypotheses a named witness `test_wit_<obligation>` that meets them together. -/

namespace Sys2Proof.Machine.Tests

open Sys2Proof Sys2Proof.Machine

set_option Elab.async false

/-! ## Helpers -/

/-- A BUSY core about to perform `i`, nothing else set. -/
def at_ (i : Instr) : State := { State.reset with STATUS := .busy, OP := i.op, TCTR := i.tctr }

/-- The state an operation answers, `State.reset` where it answers none. -/
def after (o : Host.Outcome State Fault Refusal) : State :=
  match o with
  | .next s => s
  | .fault _ => State.reset
  | .refused _ => State.reset

/-- Whether an operation answers a next state. -/
def completes (o : Host.Outcome State Fault Refusal) : Bool :=
  match o with
  | .next _ => true
  | .fault _ => false
  | .refused _ => false

/-- The function units with operands. -/
def operands (x y z : Word) (n : Nat) : State :=
  { State.reset with fu := { x := x, y := y, z := z, n := n, result := none } }

/-- The value on the result wire. -/
def result (o : Host.Outcome State Fault Refusal) : Option Word := (after o).fu.result

/-- The block of "abc" (95 section 2.4): `61 62 63 80`, zeros, `18`. -/
def abcBlock : Vector (Option Byte) 64 :=
  Vector.ofFn fun j : Fin 64 =>
    some (if j.val = 0 then 0x61 else if j.val = 1 then 0x62 else if j.val = 2 then 0x63 else if j.val = 3 then 0x80
      else if j.val = 63 then 0x18 else 0)

/-- The first sixteen schedule words of "abc" (95 section 2.5), the rest zero. -/
def abcWords : Vector (Option Word) 64 :=
  Vector.ofFn fun t : Fin 64 => some (if t.val = 0 then 0x61626380 else if t.val = 15 then 0x18 else 0)

/-- HINIT in the hash registers. -/
def freshH : Vector (Option Word) 8 :=
  #v[some 0x6a09e667, some 0xbb67ae85, some 0x3c6ef372, some 0xa54ff53a, some 0x510e527f, some 0x9b05688c,
    some 0x1f83d9ab, some 0x5be0cd19]

/-- a..h after INITV of a first block (95 section 2.6, row "init"). -/
def freshVars : Working :=
  { a := some 0x6a09e667, b := some 0xbb67ae85, c := some 0x3c6ef372, d := some 0xa54ff53a
    e := some 0x510e527f, f := some 0x9b05688c, g := some 0x1f83d9ab, h := some 0x5be0cd19 }

/-- a..h after round 63 of "abc" (95 section 2.6). -/
def lastVars : Working :=
  { a := some 0x506e3058, b := some 0xd39a2165, c := some 0x04d24d6c, d := some 0xb85e2ce9
    e := some 0x5ef50f24, f := some 0xfb121210, g := some 0x948d25b6, h := some 0x961f4894 }

/-- The final hash words of "abc" (95 section 2.7). -/
def abcH : Vector (Option Word) 8 :=
  #v[some 0xba7816bf, some 0x8f01cfea, some 0x414140de, some 0x5dae2223, some 0xb00361a3, some 0x96177a9c,
    some 0xb410ff61, some 0xf20015ad]

/-- A BUSY core with a length of `n` bytes latched, at the window `i`, TOTAL being `tot`. -/
def window (op : Instr) (n i tot : U64) : State := { at_ op with LEN := some n, I := some i, TOTAL := some tot }

/-! ## Well-formedness and decoding -/

/-- `(EXPAND, 3)` is the spec's own example of a reserved pair (30_encoding.md R88). -/
theorem test_expand_3_ill_formed : Instr.wellFormed (.expand 3) = false := by decide

theorem test_expand_bounds : Instr.wellFormed (.expand 15) = false ∧ Instr.wellFormed (.expand 16) = true := by decide

/-- 30_encoding.md R84. -/
theorem test_decode_commands :
    decode .c 0b00 = .ok .cmdNone ∧ decode .c 0b01 = .ok .start ∧ decode .c 0b10 = .ok .abort ∧
      decode .c 0b11 = .ok .cmdReserved := by
  decide

/-- 30_encoding.md R85, each word pattern written out. -/
theorem test_decode_micro :
    decode .u 0b0000000000 = .ok .idle ∧ decode .u 0b0001000000 = .ok .pad ∧ decode .u 0b0010000000 = .ok .blkMsg ∧
      decode .u 0b0011000000 = .ok .blkTail ∧ decode .u 0b0100000000 = .ok .blkMerge ∧
      decode .u 0b0101000000 = .ok (.loadw 0) ∧ decode .u 0b0101001001 = .ok (.loadw 9) ∧
      decode .u 0b0110111111 = .ok (.expand 63) ∧ decode .u 0b0111000000 = .ok .initv ∧
      decode .u 0b1000000000 = .ok (.round 0) ∧ decode .u 0b1001000000 = .ok .fold ∧
      decode .u 0b1010000000 = .ok .next ∧ decode .u 0b1011000000 = .ok .emit := by
  decide

/-- 30_encoding.md R87. -/
theorem test_decode_primitives :
    decode .f 0b000 = .ok .rotr ∧ decode .f 0b001 = .ok .shr ∧ decode .f 0b010 = .ok .ch ∧ decode .f 0b011 = .ok .maj ∧
      decode .f 0b100 = .ok .bsig0 ∧ decode .f 0b101 = .ok .bsig1 ∧ decode .f 0b110 = .ok .ssig0 ∧
      decode .f 0b111 = .ok .ssig1 := by
  decide

/-- 30_encoding.md R88: OP 12, an index out of range (`(EXPAND, 3)`, `(PAD, 1)`, LOADW 16), a word of 11 bits. -/
theorem test_reserved_words :
    decode .u 0b1100000000 = .reject (.reservedOp 12 0) ∧ decode .u 0b0110000011 = .reject (.indexOutOfRange 6 3) ∧
      decode .u 0b0001000001 = .reject (.indexOutOfRange 1 1) ∧
      decode .u 0b0101010000 = .reject (.indexOutOfRange 5 16) ∧ decode .u 1024 = .reject (.wordTooWide .u 1024) := by
  decide

/-- The words of program P8 (95 section 3): `1a6` is EXPAND 38. -/
theorem test_encode_p8 : encode (.expand 38) = 0x1a6 ∧ encode (.loadw 15) = 0x14f ∧ encode (.round 63) = 0x23f := by
  decide

/-- The words of the operation table at their own widths. -/
theorem test_table_words :
    decodeTableWord 2 2 = some .abort ∧ decodeTableWord 3 1 = some .shr ∧ decodeTableWord 8 6 = some .ssig0 ∧
      decodeTableWord 8 1 = some .start ∧ decodeTableWord 16 0x2c0 = some .emit ∧ decodeTableWord 10 0x180 = none := by
  decide

/-! ## Host commands (95 section 2.8) -/

/-- `START len=3` in IDLE. -/
theorem test_start :
    let t := after (exec .start { State.reset with MSG_LEN := 3 })
    t.STATUS = .busy ∧ t.LEN = some 3 ∧ t.H = freshH ∧ t.I = some 0 ∧ t.OP = 1 ∧ t.TCTR = 0 ∧ t.DIGEST = none := by
  decide +kernel

/-- START while BUSY is ignored (program P8); the boundary of program P5: 2^61 − 1 is accepted, 2^61 faults with code 1 and LEN
is not written. -/
theorem test_start_busy_and_boundary :
    after (exec .start (at_ (.expand 38))) = at_ (.expand 38) ∧
      (after (exec .start { State.reset with MSG_LEN := 0x1fffffffffffffff })).STATUS = .busy ∧
      (after (exec .start { State.reset with MSG_LEN := 0x2000000000000000 })).readStatus = 3 ∧
      (after (exec .start { State.reset with MSG_LEN := 0x2000000000000000 })).readFaultCode = 1 ∧
      (after (exec .start { State.reset with MSG_LEN := 0x2000000000000000 })).LEN = none := by
  decide +kernel

/-- ABORT is recorded while BUSY, ignored in FAULT. -/
theorem test_abort :
    (after (exec .abort (at_ (.round 17)))).ABORT_PENDING = true ∧
      (after (exec .abort { State.reset with STATUS := .fault })).ABORT_PENDING = false := by
  decide +kernel

theorem test_none_in_done : (after (exec .cmdNone { State.reset with STATUS := .done })).STATUS = .done := by decide +kernel

theorem test_reserved_command : after (exec .cmdReserved (at_ .pad)) = at_ .pad := by decide +kernel

theorem test_idle : after (exec .idle (at_ .idle)) = at_ .idle := by decide +kernel

/-! ## The padder (95 sections 2.3, 2.4) -/

/-- LEN = 56: the longest tail, and BLK_MERGE next (program P3). -/
theorem test_pad_56 :
    let t := after (exec .pad (window .pad 56 0 0))
    t.L = some 448 ∧ t.PADBITS = some 504 ∧ t.TLEN = some 72 ∧ t.TOTAL = some 128 ∧ t.OP = 4 ∧ t.T[0] = some 0x80 ∧
      t.T[63] = some 0 ∧ t.T[70] = some 0x01 ∧ t.T[71] = some 0xc0 := by
  decide +kernel

/-- LEN = 2^61 − 9: the shortest tail of a length whose `8 × LEN + 72` exceeds 2^64. -/
theorem test_pad_top :
    let t := after (exec .pad (window .pad 0x1ffffffffffffff7 0 0))
    t.PADBITS = some 0 ∧ t.TLEN = some 9 ∧ t.TOTAL = some 0x2000000000000000 ∧ t.OP = 2 ∧ t.T[1] = some 0xff ∧
      t.T[8] = some 0xb8 ∧ t.T[9] = none := by
  decide +kernel

/-- LEN = 64, MSG = 00 01 .. 3f (program P4). -/
theorem test_blk_msg :
    let t :=
      after (exec .blkMsg
        { window .blkMsg 64 0 128 with MSG := Memory.writeList [] 0 ((List.range 64).map (BitVec.ofNat 8)) })
    t.B[0] = some 0 ∧ t.B[1] = some 1 ∧ t.B[63] = some 0x3f ∧ t.OP = 5 ∧ t.TCTR = 0 := by
  decide +kernel

/-- LEN = 56, I = 64: `o = 8`, 56 zero bytes, then the length (program P3). -/
theorem test_blk_tail :
    let t := after (exec .blkTail { window .blkTail 56 64 128 with T := padTail 56 448 })
    t.B[0] = some 0 ∧ t.B[55] = some 0 ∧ t.B[62] = some 0x01 ∧ t.B[63] = some 0xc0 ∧ t.OP = 5 := by
  decide +kernel

/-- LEN = 3, MSG = 61 62 63 (program P2): the separator directly after the message. -/
theorem test_blk_merge :
    (after (exec .blkMerge
      { window .blkMerge 3 0 64 with T := padTail 3 24, MSG := [(0, 0x61), (1, 0x62), (2, 0x63)] })).B =
      abcBlock := by
  decide +kernel

/-! ## The compressor (95 sections 2.5 to 2.7) -/

theorem test_loadw :
    (after (exec (.loadw 0) { at_ (.loadw 0) with B := abcBlock })).W[0] = some 0x61626380 ∧
      (after (exec (.loadw 15) { at_ (.loadw 15) with B := abcBlock })).W[15] = some 0x18 ∧
      (after (exec (.loadw 15) { at_ (.loadw 15) with B := abcBlock })).OP = 6 ∧
      (after (exec (.loadw 15) { at_ (.loadw 15) with B := abcBlock })).TCTR = 16 := by
  decide +kernel

/-- `W[16] = 61626380`, `W[17] = 000f0000`. -/
theorem test_expand :
    (after (exec (.expand 16) { at_ (.expand 16) with W := abcWords })).W[16] = some 0x61626380 ∧
      (after (exec (.expand 17) { at_ (.expand 17) with W := abcWords })).W[17] = some 0x000f0000 := by
  decide +kernel

/-- `W[31] = ssig1(W[29]) + W[24] + ssig0(W[16]) + W[15]`, all four terms nonzero; `W[29] = ec8726cb`. -/
theorem test_expand_31 :
    expandWord 0xec8726cb 0xc8215c1a 0x61626380 0x18 = 0xd3b7973b ∧
      completes (exec (.expand 15) (at_ (.expand 15))) = false := by
  decide +kernel

theorem test_initv :
    (after (exec .initv { at_ .initv with H := freshH })).wv = freshVars ∧
      (after (exec .initv { at_ .initv with H := freshH })).OP = 8 := by
  decide +kernel

/-- Round 0 of "abc". -/
theorem test_round_0 :
    (after (exec (.round 0) { at_ (.round 0) with W := abcWords, wv := freshVars })).wv =
      { a := some 0x5d6aebcd, b := some 0x6a09e667, c := some 0xbb67ae85, d := some 0x3c6ef372
        e := some 0xfa2a4622, f := some 0x510e527f, g := some 0x9b05688c, h := some 0x1f83d9ab } := by
  decide +kernel

/-- Round 63 of "abc", from the row of round 62, with `W[63] = 12b1edeb`; the next pair is FOLD's. -/
theorem test_round_63 :
    let s :=
      { at_ (.round 63) with
        W := Vector.replicate 64 (some 0x12b1edeb)
        wv :=
          { a := some 0xd39a2165, b := some 0x04d24d6c, c := some 0xb85e2ce9, d := some 0xb6ae8fff
            e := some 0xfb121210, f := some 0x948d25b6, g := some 0x961f4894, h := some 0xb21bad3d } }
    (after (exec (.round 63) s)).wv = lastVars ∧ (after (exec (.round 63) s)).OP = 9 := by
  decide +kernel

theorem test_fold : (after (exec .fold { at_ .fold with H := freshH, wv := lastVars })).H = abcH := by decide +kernel

/-- NEXT after the single block of "abc": I = 64 = TOTAL, EMIT next; with an ABORT pending the computation is abandoned
(programs P2, P6). -/
theorem test_next :
    (after (exec .next (window .next 3 0 64))).OP = 11 ∧ (after (exec .next (window .next 3 0 64))).I = some 64 ∧
      (after (exec .next { window .next 3 0 64 with ABORT_PENDING := true })).STATUS = .idle ∧
      (after (exec .next { window .next 3 0 64 with ABORT_PENDING := true })).LEN = some 3 := by
  decide +kernel

/-- The state of 95 section 2.8 that no run produces: I = 64, TOTAL = 96 at a dispatch: FAULT, code 2. -/
theorem test_next_violation :
    (after (exec .next (window .next 3 0 96))).readStatus = 3 ∧ (after (exec .next (window .next 3 0 96))).readFaultCode = 2 := by
  decide +kernel

/-- The digest of "abc" (V2), its first and last words. -/
theorem test_emit :
    let t := after (exec .emit { at_ .emit with H := abcH })
    t.readStatus = 2 ∧ t.H = abcH ∧
      t.readDigest.map (fun d => (d.toList.take 4, d.toList.drop 28)) =
        some ([0xba, 0x78, 0x16, 0xbf], [0xf2, 0x00, 0x15, 0xad]) := by
  decide +kernel

/-! ## The bit primitives (95 section 2.2) -/

theorem test_rotr :
    result (exec .rotr (operands 0x12345678 0 0 8)) = some 0x78123456 ∧
      result (exec .rotr (operands 0x12345678 0 0 32)) = some 0x12345678 ∧
      result (exec .rotr (operands 0x12345678 0 0 36)) = some 0x81234567 := by
  decide +kernel

theorem test_shr :
    result (exec .shr (operands 0x12345678 0 0 4)) = some 0x01234567 ∧
      result (exec .shr (operands 0x12345678 0 0 32)) = some 0 ∧
      result (exec .shr (operands 0x80000000 0 0 31)) = some 1 ∧
      result (exec .shr (operands 0xffffffff 0 0 33)) = some 0 := by
  decide +kernel

theorem test_ch :
    result (exec .ch (operands 0x510e527f 0x9b05688c 0x1f83d9ab 0)) = some 0x1f85c98c ∧
      result (exec .ch (operands 0xffff0000 0xff00ff00 0xf0f0f0f0 0)) = some 0xff00f0f0 := by
  decide +kernel

theorem test_maj :
    result (exec .maj (operands 0x6a09e667 0xbb67ae85 0x3c6ef372 0)) = some 0x3a6fe667 ∧
      result (exec .maj (operands 0xffff0000 0xff00ff00 0xf0f0f0f0 0)) = some 0xfff0f000 := by
  decide +kernel

theorem test_bsig0 : result (exec .bsig0 (operands 0x12345678 0 0 0)) = some 0x66146474 := by decide +kernel

theorem test_bsig1 : result (exec .bsig1 (operands 0x12345678 0 0 0)) = some 0x3561abda := by decide +kernel

theorem test_ssig0 :
    result (exec .ssig0 (operands 0x12345678 0 0 0)) = some 0xe7fce6ee ∧
      result (exec .ssig0 (operands 0xffffffff 0 0 0)) = some 0x1fffffff := by
  decide +kernel

theorem test_ssig1 :
    result (exec .ssig1 (operands 0x12345678 0 0 0)) = some 0xa1f78649 ∧
      result (exec .ssig1 (operands 0xffffffff 0 0 0)) = some 0x003fffff := by
  decide +kernel

/-! ## The table, reset, and the step -/

/-- Checks over the whole tables (95 section 2.1). -/
theorem test_table_sums :
    Config.K.toList.foldl (· + ·) 0 = 0x941d1755 ∧ Config.K.toList.foldl (· ^^^ ·) 0 = 0x95c49cf5 ∧
      Config.HINIT.toList.foldl (· + ·) 0 = 0x6ea8df67 ∧ Config.HINIT.toList.foldl (· ^^^ ·) 0 = 0xc62760eb := by
  decide +kernel

/-- The first step after reset runs the placed word of one row of each format a step takes: START and EMIT. -/
theorem test_first_step :
    (after (step (State.reset.withFetchWord 2 1))).STATUS = .busy ∧
      (after (step (State.reset.withFetchWord 10 0x2c0))).STATUS = .done := by
  decide +kernel

/-- Every row of formats C and U, placed after reset, is run by the first step (EXPAND from index 16 on). -/
theorem test_every_row_runs :
    ([(2, 0), (2, 1), (2, 2), (2, 3), (10, 0), (10, 0x40), (10, 0x80), (10, 0xc0), (10, 0x100), (10, 0x140), (10, 0x190),
          (10, 0x1c0), (10, 0x200), (10, 0x240), (10, 0x280), (10, 0x2c0)].all
        fun nw => (decodeTableWord nw.1 nw.2).isSome && completes (step (State.reset.withFetchWord nw.1 nw.2))) =
      true := by
  decide +kernel

/-- Every row of format F decodes to an operation that completes; the reset state has no place for its word (30_encoding.md R83). -/
theorem test_every_primitive_runs :
    ((List.range 8).all fun w =>
        (match decodeTableWord 3 w with
          | some i => completes (exec i State.reset)
          | none => false) &&
          decide (State.reset.withFetchWord 3 w = State.reset)) =
      true := by
  decide +kernel

/-- A command is taken once (10_state.md R29). -/
theorem test_command_taken :
    (after (step { State.reset with CMD := some 1, MSG_LEN := 3 })).CMD = none := by
  decide +kernel

/-- START presented, then NONE before any step of the core: the START is taken (44_control.md R160). -/
theorem test_command_not_lost :
    let t := after (runTrace [.msgLen 3, .command 1, .command 0, .core] State.reset)
    t.STATUS = .busy ∧ t.LEN = some 3 ∧ t.CMD = none := by
  decide +kernel

/-- Reset in the middle of a block (program P9). -/
theorem test_reset_mid_block :
    (after (Event.apply .reset { at_ (.round 10) with H := freshH, wv := freshVars })).STATUS = .idle ∧
      (after (Event.apply .reset { at_ (.round 10) with H := freshH, wv := freshVars })).wv = Working.empty := by
  decide +kernel

/-- The host must not change the message while the core is BUSY (70_reset_and_hazards.md R240): refused. -/
theorem test_fill_while_busy :
    completes (Event.apply (.fillMsg [1]) (window .pad 1 0 0)) = false ∧
      completes (Event.apply (.fillMsg [0, 1]) (window .pad 1 0 0)) = true := by
  decide +kernel

/-! ## Witnesses: the hypotheses of each obligation, met together by a concrete state and operands -/

theorem test_wit_DecodeOfEncodeIsIdentity :
    Instr.wellFormed (.expand 16) = true ∧ Instr.wellFormed (.expand 63) = true ∧ Instr.wellFormed (.loadw 15) = true := by
  decide

theorem test_wit_EncodeOfDecodeIsIdentity :
    decode .u 0x190 = .ok (.expand 16) ∧ decode .c 3 = .ok .cmdReserved ∧ decode .f 0 = .ok .rotr := by
  decide

/-- A BUSY core with an arbitrary pair in `pc`. -/
def pair (op : BitVec 4) (t : BitVec 6) : State := { State.reset with STATUS := .busy, OP := op, TCTR := t }

theorem test_wit_undisturbed (op : BitVec 4) (t : BitVec 6) : Undisturbed (pair op t) ∧ (pair op t).STATUS = .busy :=
  ⟨rfl, rfl⟩

/-- Whether a pair is reserved, as ReservedPcIsStuck says it. -/
def reserved (op : BitVec 4) (t : BitVec 6) : Bool :=
  decide
    (12 ≤ op.toNat ∨ (op.toNat = 5 ∧ 16 ≤ t.toNat) ∨ (op.toNat = 6 ∧ t.toNat < 16) ∨
      (op.toNat ≠ 5 ∧ op.toNat ≠ 6 ∧ op.toNat ≠ 8 ∧ t.toNat ≠ 0))

/-- The boundary pairs of both clauses; `test_wit_undisturbed` gives the other hypotheses. -/
theorem test_wit_ReservedPcIsStuck :
    (reserved 12 0 && reserved 5 16 && reserved 6 15 && reserved 1 1 && reserved 11 63) = true ∧
      (reserved 11 0 || reserved 5 15 || reserved 6 16 || reserved 6 63 || reserved 8 63 || reserved 0 0) = false := by
  decide

/-- The three clauses: a command, a micro-operation, rest. -/
theorem test_wit_StepRunsDecodedOperation :
    ({ State.reset with CMD := some 3 } : State).CMD = some 3 ∧
      decodeU (pair 8 63).OP (pair 8 63).TCTR = .ok (.round 63) ∧ State.reset.STATUS ≠ .busy ∧
      Undisturbed State.reset :=
  ⟨rfl, rfl, by decide, rfl⟩

theorem test_wit_PlacedTableWordRunsNext :
    decodeTableWord 16 0x190 = some (.expand 16) ∧ decodeTableWord 2 3 = some .cmdReserved ∧
      Instr.cmdReserved.format ≠ .f ∧ decodeTableWord 3 0 = some .rotr ∧ Instr.rotr.format = .f := by
  decide

theorem test_wit_PrimitivesAreNeverIssuedAsSteps :
    decodeU 6 63 = .ok (.expand 63) ∧ Event.apply .core State.reset = .next State.reset := ⟨rfl, rfl⟩

/-- Two commands presented at reset, and one that waits with none presented after it. -/
theorem test_wit_EveryPresentedCommandIsTakenOnce :
    State.reset.CMD.toList ++ ([1, 2] : List (BitVec 2)) ≠ [] ∧
      ({ State.reset with CMD := some 1 } : State).CMD.toList ++ ([] : List (BitVec 2)) ≠ [] := by
  decide

theorem test_wit_ResetAbsorbsWaitingCommand : ({ at_ .pad with CMD := some 2 } : State).CMD = some 2 := rfl

theorem test_wit_WellFormedOperationAlwaysCompletes :
    Instr.wellFormed (.expand 16) = true ∧ Instr.wellFormed (.expand 15) = false := by
  decide

/-- BUSY; too long by one; the longest admitted. -/
theorem test_wit_StartBeginsComputation :
    (pair 1 0).STATUS = .busy ∧ State.reset.STATUS ≠ .busy ∧
      2 ^ 61 ≤ ({ State.reset with MSG_LEN := 0x2000000000000000 } : State).MSG_LEN.toNat ∧
      ({ State.reset with MSG_LEN := 0x1fffffffffffffff } : State).MSG_LEN.toNat < 2 ^ 61 := by
  decide +kernel

theorem test_wit_AbortIsRecordedWhileBusy : (pair 8 17).STATUS = .busy ∧ State.reset.STATUS ≠ .busy := by decide

/-- Both ABORT_PENDING values, for the empty and the longest admitted message; also for PaddedStreamIsWholeBlocks. -/
theorem test_wit_PadBuildsTail :
    (window .pad 0 0 0).LEN = some 0 ∧ (window .pad 0 0 0).ABORT_PENDING = false ∧ (0 : U64).toNat < 2 ^ 61 ∧
      (window .pad 0x1fffffffffffffff 0 0).LEN = some 0x1fffffffffffffff ∧
      (0x1fffffffffffffff : U64).toNat < 2 ^ 61 ∧
      ({ window .pad 0 0 0 with ABORT_PENDING := true } : State).ABORT_PENDING = true := by
  decide +kernel

theorem test_wit_PaddedStreamIsWholeBlocks :
    (window .pad 56 0 0).LEN = some 56 ∧ (56 : U64).toNat < 2 ^ 61 ∧ (window .pad 56 0 0).ABORT_PENDING = false := by
  decide +kernel

/-- The boundary values: a window ending with the message, one beginning where the message ends, and merges of 1 and of 63
message bytes; T is PAD's. -/
theorem test_wit_BlockFillsFromPaddedStream :
    (window .blkMsg 64 0 128).LEN = some 64 ∧ (window .blkMsg 64 0 128).I = some 0 ∧
      (0 : U64).toNat + 64 ≤ (64 : U64).toNat ∧ (64 : U64).toNat ≤ (64 : U64).toNat ∧
      (∀ j, j < 64 → (padTail 64 512)[j]? = some (some (tailByte 64 512 j))) ∧
      (0 : U64).toNat < (1 : U64).toNat ∧ (1 : U64).toNat < (0 : U64).toNat + 64 ∧
      (∀ j, j < 64 - 1 → (padTail 1 8)[j]? = some (some (tailByte 1 8 j))) ∧
      (0 : U64).toNat < (63 : U64).toNat ∧ (63 : U64).toNat < (0 : U64).toNat + 64 ∧
      (∀ j, j < 64 - 63 → (padTail 63 504)[j]? = some (some (tailByte 63 504 j))) := by
  decide +kernel

theorem test_wit_LoadwLoadsBigEndianWord :
    abcBlock[4 * (15 : BitVec 4).toNat]? = some (some 0) ∧ abcBlock[4 * (15 : BitVec 4).toNat + 1]? = some (some 0) ∧
      abcBlock[4 * (15 : BitVec 4).toNat + 2]? = some (some 0) ∧
      abcBlock[4 * (15 : BitVec 4).toNat + 3]? = some (some 0x18) := by
  decide +kernel

/-- The first index and the last. -/
theorem test_wit_ExpandDerivesScheduleWord :
    16 ≤ (16 : BitVec 6).toNat ∧ abcWords[16 - 2]? = some (some 0) ∧ abcWords[16 - 7]? = some (some 0) ∧
      abcWords[16 - 15]? = some (some 0) ∧ abcWords[16 - 16]? = some (some 0x61626380) ∧
      16 ≤ (63 : BitVec 6).toNat ∧ abcWords[63 - 2]? = some (some 0) ∧ abcWords[63 - 7]? = some (some 0) ∧
      abcWords[63 - 15]? = some (some 0) ∧ abcWords[63 - 16]? = some (some 0) := by
  decide +kernel

theorem test_wit_InitvCopiesHashState : ({ at_ .initv with H := freshH } : State).H = freshH := by decide +kernel

theorem test_wit_RoundMixesWorkingVariables :
    ({ at_ (.round 63) with wv := freshVars, W := abcWords } : State).wv = freshVars ∧
      ({ at_ (.round 63) with wv := freshVars, W := abcWords } : State).W[(63 : BitVec 6).toNat]? = some (some 0) := by
  decide +kernel

theorem test_wit_FoldAddsIntoHashState :
    ({ at_ .fold with wv := lastVars, H := freshH } : State).wv = lastVars ∧
      ({ at_ .fold with wv := lastVars, H := freshH } : State).H = freshH := by
  decide +kernel

/-- The four clauses at their boundaries: an ABORT pending; I + 64 = TOTAL; less than one window left (I + 127 = TOTAL); exactly
one window left. -/
theorem test_wit_NextAdvancesAndDispatches :
    ({ window .next 3 0 64 with ABORT_PENDING := true } : State).ABORT_PENDING = true ∧
      (window .next 3 0 64).ABORT_PENDING = false ∧ (0 : U64).toNat + 64 = (64 : U64).toNat ∧
      ((0 : U64).toNat + 64 ≠ (127 : U64).toNat ∧ (127 : U64).toNat < (0 : U64).toNat + 128) ∧
      (0 : U64).toNat + 128 ≤ (128 : U64).toNat ∧ (0 : U64).toNat + 64 < 2 ^ 64 ∧
      (window .next 3 0 64).LEN = some 3 ∧ (window .next 3 0 64).I = some 0 ∧ (window .next 3 0 64).TOTAL = some 64 := by
  decide +kernel

theorem test_wit_EmitSerialisesDigest :
    ∀ i : Fin 8, ({ at_ .emit with H := Config.HINIT.map some } : State).H[i.val]? = some (some Config.HINIT[i]) := by
  decide +kernel

theorem test_wit_FaultPersistsUntilStart :
    ({ State.reset with STATUS := .fault, FAULT_CODE := .inputTooLarge, CMD := some 2 } : State).STATUS = .fault ∧
      ({ State.reset with STATUS := .fault, FAULT_CODE := .inputTooLarge, CMD := some 2 } : State).CMD ≠ some 1 := by
  decide +kernel

theorem test_wit_StepNeverWritesMessage : step State.reset = .next State.reset := rfl

theorem test_wit_OnlyStartAndFoldWriteHashState :
    exec .blkMsg (at_ .blkMsg) = .next (after (exec .blkMsg (at_ .blkMsg))) ∧
      (after (exec .blkMsg (at_ .blkMsg))).STATUS = .busy ∧ Instr.blkMsg ≠ .start ∧ Instr.blkMsg ≠ .fold ∧
      (after (exec .emit (at_ .emit))).STATUS = .done :=
  ⟨rfl, rfl, by decide, by decide, rfl⟩

theorem test_wit_NothingStopsTheCoreMidBlock : ∃ t : BitVec 6, Instr.expand 16 = .expand t ∧ 16 ≤ t.toNat :=
  ⟨16, rfl, by decide⟩

/-- A core that has accepted the empty message: PAD is next. -/
def begun : State := ({ State.reset with STATUS := .done, DIGEST := some (Vector.replicate 32 0) } : State).begin

theorem begun_control : ControlInv begun where
  busyPc := fun _ => ⟨.pad, rfl, by decide⟩
  restPc := fun h => absurd rfl h
  faultCode := by decide +kernel
  noMalformed := by decide +kernel
  digest := by decide +kernel
  pending := by decide +kernel

theorem begun_inv : Inv begun where
  control := begun_control
  ready := fun _ => ⟨0, 0, .pad, rfl, rfl, rfl, ⟨rfl, by decide, firstHeld_HINIT⟩, rfl⟩

/-- `begun` with an ABORT recorded. -/
def begunAborted : State := { begun with ABORT_PENDING := true }

theorem begunAborted_inv : Inv begunAborted where
  control :=
    { busyPc := fun _ => ⟨.pad, rfl, by decide⟩
      restPc := fun h => absurd rfl h
      faultCode := by decide +kernel
      noMalformed := by decide +kernel
      digest := by decide +kernel
      pending := fun _ => .inl rfl }
  ready := fun _ => ⟨0, 0, .pad, rfl, rfl, rfl, ⟨rfl, by decide, firstHeld_HINIT⟩, rfl⟩

/-- The empty message after PAD, at a micro-operation of its one block, the schedule and the working variables filled. -/
def inBlock (i : Instr) (off : U64) : State :=
  { (begun.padWrites 0).goTo i with W := abcWords, wv := freshVars, I := some off, ABORT_PENDING := true }

theorem inBlock_padded (i : Instr) (off : U64) : Padded (inBlock i off) 0 := by
  refine ⟨⟨rfl, by decide, firstHeld_HINIT⟩, rfl, rfl, rfl, rfl, ?_⟩
  intro j hj
  change j < tailLen 0 at hj
  have h72 := (tailLen_bounds 0).2
  rw [show (inBlock i off).T = padTail 0 (bitLength 0) from State.padWrites_T_of_lt begun (by omega), padTail_get? _ _ _ (by omega)]
  exact congrArg some (if_pos hj)

/-- The control part in the middle of a block. -/
theorem inBlock_control {i : Instr} (off : U64) (hd : decodeU i.op i.tctr = .ok i) (hi : i ≠ .idle) :
    ControlInv (inBlock i off) where
  busyPc := fun _ => ⟨i, hd, hi⟩
  restPc := fun h => absurd rfl h
  faultCode := ⟨fun _ h => Status.noConfusion h, fun _ => rfl⟩
  noMalformed := fun h => FaultCode.noConfusion h
  digest := ⟨fun h => Bool.noConfusion h, fun h => Status.noConfusion h⟩
  pending := fun _ => .inl rfl

theorem inBlock_round_inv : Inv (inBlock (.round 63) 0) where
  control := inBlock_control 0 rfl (by decide)
  ready := fun _ => by
    refine ⟨0, 0, .round 63, rfl, rfl, rfl, inBlock_padded _ _, ⟨rfl, by decide⟩, ?_, ?_⟩
    · intro j hj
      have h := Vector.getElem?_eq_getElem (xs := abcWords) hj
      exact ⟨_, h.trans (by simp only [abcWords, Vector.getElem_ofFn]; rfl)⟩
    · exact ⟨⟨0x6a09e667, 0xbb67ae85, 0x3c6ef372, 0xa54ff53a, 0x510e527f, 0x9b05688c, 0x1f83d9ab, 0x5be0cd19⟩, rfl⟩

theorem inBlock_emit_inv : Inv (inBlock .emit 64) where
  control := inBlock_control 64 rfl (by decide)
  ready := fun _ => ⟨0, 64, .emit, rfl, rfl, rfl, inBlock_padded _ _, by decide⟩

theorem test_wit_StepKeepsControlConsistent : ∃ t, ControlInv begun ∧ step begun = .next t := ⟨_, begun_control, rfl⟩

theorem test_wit_StepKeepsComputationInvariant :
    ∃ t u, (Inv begun ∧ step begun = .next t) ∧ Inv (inBlock (.round 63) 0) ∧ step (inBlock (.round 63) 0) = .next u :=
  ⟨_, _, ⟨begun_inv, rfl⟩, inBlock_round_inv, rfl⟩

theorem test_wit_EventKeepsComputationInvariant :
    ∃ t, Inv (inBlock (.round 63) 0) ∧ Event.apply (.command 2) (inBlock (.round 63) 0) = .next t :=
  ⟨_, inBlock_round_inv, rfl⟩

theorem test_wit_InvariantViolationIsUnreachable : Inv begun ∧ begun.FAULT_CODE ≠ .invariantViolation :=
  ⟨begun_inv, by decide +kernel⟩

theorem test_wit_EventKeepsMemoryForm :
    Memory.wf ({ State.reset with MSG := [(0, 1), (7, 2)] } : State).MSG = true ∧
      completes (Event.apply (.fillMsg [3, 0, 0, 4]) { State.reset with MSG := [(0, 1), (7, 2)] }) = true := by
  decide +kernel

theorem test_wit_FilledMessageReadsBack :
    State.reset.STATUS ≠ .busy ∧ Memory.wf State.reset.MSG = true ∧ ([0x61, 0x62, 0x63] : List Byte).length ≤ 2 ^ 64 := by
  decide

theorem test_wit_BlockRunIsCompression :
    let s : State := { pair 5 0 with H := Config.HINIT.map some, B := fullBlock fun _ => 0x61 }
    Undisturbed s ∧ s.STATUS = .busy ∧ s.OP = 5 ∧ s.TCTR = 0 ∧ s.H = Config.HINIT.map some ∧
      ∀ j, j < 64 → s.B[j]? = some (some 0x61) :=
  ⟨rfl, rfl, rfl, rfl, rfl, fun j hj => fullBlock_get? _ j hj⟩

/-- A core at rest with START presented for the message `m`. -/
def offered (m : List Byte) : State :=
  { State.reset with CMD := some 1, MSG_LEN := BitVec.ofNat 64 m.length, MSG := Memory.writeList [] 0 m }

/-- The empty message and "abc". -/
theorem test_wit_DigestIsSha256OfMessage :
    ((offered []).STATUS ≠ .busy ∧ (offered []).CMD = some 1 ∧ (offered []).MSG_LEN.toNat = 0) ∧
      (offered [0x61, 0x62, 0x63]).STATUS ≠ .busy ∧ (offered [0x61, 0x62, 0x63]).CMD = some 1 ∧
      (offered [0x61, 0x62, 0x63]).MSG_LEN.toNat = 3 ∧
      ∀ j, j < 3 → Memory.read (offered [0x61, 0x62, 0x63]).MSG j = ([0x61, 0x62, 0x63] : List Byte).getD j 0 := by
  decide +kernel

theorem test_wit_ComputationPerformsMicroSequence :
    (offered [0x61]).STATUS ≠ .busy ∧ (offered [0x61]).CMD = some 1 ∧
      (offered [0x61]).MSG_LEN.toNat < 2 ^ 61 := by
  decide +kernel

/-- The words of program P1 (95 section 3): 134 for the empty message, the first, third and last; 398 for program P6's 150 bytes,
whose second block is a BLK_MSG and third a BLK_MERGE. -/
theorem test_micro_sequence :
    (microSequence 0).length = 134 ∧ (microSequence 0).take 3 = [.pad, .blkTail, .loadw 0] ∧
      (microSequence 0).getLast? = some .emit ∧ (microSequence 150).length = 398 ∧
      (microSequence 150)[133]? = some .blkMsg ∧ (microSequence 150)[265]? = some .blkMerge := by
  decide +kernel

/-- Two cores, one fresh and one in DONE with other bytes beyond the message. -/
theorem test_wit_DigestDependsOnMessageAlone :
    let s := offered [0x61]
    let s' := { offered [0x61] with STATUS := .done, H := abcH, MSG := [(0, 0x61), (1, 0x62)] }
    s.STATUS ≠ .busy ∧ s'.STATUS ≠ .busy ∧ s.CMD = some 1 ∧ s'.CMD = some 1 ∧
      s.MSG_LEN = s'.MSG_LEN ∧ s.MSG_LEN.toNat < 2 ^ 61 ∧
      ∀ j, j < s.MSG_LEN.toNat → Memory.read s.MSG j = Memory.read s'.MSG j := by
  decide +kernel

/-- Both outcomes: at PAD and in the middle of a block (abandoned), and at EMIT (finished first). -/
theorem test_wit_AbortEndsWithinOneBlock :
    (Inv begunAborted ∧ Undisturbed begunAborted ∧ begunAborted.STATUS = .busy ∧ begunAborted.ABORT_PENDING = true) ∧
      (Inv (inBlock (.round 63) 0) ∧ Undisturbed (inBlock (.round 63) 0) ∧ (inBlock (.round 63) 0).STATUS = .busy ∧
        (inBlock (.round 63) 0).ABORT_PENDING = true) ∧
      Inv (inBlock .emit 64) ∧ Undisturbed (inBlock .emit 64) ∧ (inBlock .emit 64).STATUS = .busy ∧
      (inBlock .emit 64).ABORT_PENDING = true ∧ (inBlock .emit 64).OP = 11 :=
  ⟨⟨begunAborted_inv, rfl, rfl, rfl⟩, ⟨inBlock_round_inv, rfl, rfl, rfl⟩, inBlock_emit_inv, rfl, rfl, rfl, rfl⟩

end Sys2Proof.Machine.Tests
end

section
/-! PROOFS. The reset event (10_state.md R38, 70_reset_and_hazards.md R230, R231). -/

namespace Sys2Proof.Machine

@[simp] theorem Event.apply_reset (s : State) : Event.apply .reset s = .next s.assertReset := rfl

/-- R38: the reset values leave every data register but H and LEN without a value. -/
theorem State.reset_dataForgotten : DataForgotten State.reset := by
  simp [DataForgotten, State.reset]

/-- The data registers after the reset signal are those of the reset state. -/
@[simp] theorem State.assertReset_dataForgotten (s : State) : DataForgotten s.assertReset := by
  simpa [DataForgotten] using State.reset_dataForgotten

/-- Settles O31: the reset signal answers `assertReset`, each of whose fields is the reset state's or, for the host's two,
the one before. -/
theorem resetInAnyStateGivesResetValues : Obligations.ResetInAnyStateGivesResetValues := by
  intro s
  refine ⟨s.assertReset, Event.apply_reset s, ?_⟩
  simp [State.reset]

end Sys2Proof.Machine
end

section
/-! PROOFS. The host's side (10_state.md R29, 20_memory.md R53): no operation the core issues writes the host's ports, the
message memory or the function units' wires. -/

namespace Sys2Proof.Machine

theorem HostSideKept.of_advance {s t : State} (h : HostSideKept s.advance t) : HostSideKept s t := h

theorem HostSideKept.of_padWrites {s t : State} {len : Nat} (h : HostSideKept (s.padWrites len) t) : HostSideKept s t := h

theorem State.goTo_hostSideKept (s : State) (i : Instr) : HostSideKept s (s.goTo i) := by
  simp [HostSideKept]

theorem State.raise_hostSideKept (s : State) (c : FaultCode) : HostSideKept s (s.raise c) := by
  simp [HostSideKept]

theorem State.abandon_hostSideKept (s : State) : HostSideKept s s.abandon := by
  simp [HostSideKept]

theorem State.begin_hostSideKept (s : State) : HostSideKept s s.begin := by
  simp [HostSideKept]

/-- Whichever way the dispatch step ends (44_control.md R171). -/
theorem State.dispatch_hostSideKept (s : State) (i : Nat) : HostSideKept s (s.dispatch i) := by
  obtain ⟨-, h⟩ | ⟨-, -, h⟩ | ⟨-, -, -, h⟩ | ⟨-, -, h⟩ := s.dispatch_cases i <;> rw [h]
  · exact s.abandon_hostSideKept
  · exact s.goTo_hostSideKept _
  · exact s.raise_hostSideKept _
  · exact s.goTo_hostSideKept _

theorem exec_command_hostSideKept {i : Instr} {s t : State} (hf : i.format = .c) (h : exec i s = .next t) :
    HostSideKept s t := by
  obtain he | ⟨-, he⟩ | ⟨-, he⟩ | ⟨-, -, he⟩ := exec_command i s hf <;> cases he.symm.trans h
  · exact ⟨rfl, rfl, rfl, rfl⟩
  · exact ⟨rfl, rfl, rfl, rfl⟩
  · exact s.raise_hostSideKept _
  · exact s.begin_hostSideKept

/-- PAD and NEXT end in the dispatch step and EXPAND is the one that may be stuck; each of the others is one record update,
of registers alone. -/
theorem exec_micro_hostSideKept {i : Instr} {s t : State} (hf : i.format = .u) (h : exec i s = .next t) :
    HostSideKept s t := by
  cases i
  case pad =>
    cases h
    split
    · exact s.raise_hostSideKept _
    · exact .of_padWrites (State.dispatch_hostSideKept _ _)
  case next =>
    cases h
    exact .of_advance (State.dispatch_hostSideKept _ _)
  case expand x =>
    simp only [exec, execExpand] at h
    split at h
    · cases h
    · cases h
      exact ⟨rfl, rfl, rfl, rfl⟩
  case idle | blkMsg | blkTail | blkMerge | loadw | initv | round | fold | emit =>
    cases h
    exact ⟨rfl, rfl, rfl, rfl⟩
  all_goals cases hf

/-- What a step answers differs from the state before, on the host's side, by the command taken alone. -/
theorem step_hostSideKept {s t : State} (h : step s = .next t) : HostSideKept s.taken t := by
  obtain ⟨i, he, hc | rfl | ⟨-, -, hd⟩⟩ := step_cases h
  · exact exec_command_hostSideKept hc he
  · exact exec_micro_hostSideKept rfl he
  · exact exec_micro_hostSideKept (decodeU_sound hd).1 he

/-- Settles O34: the memory and MSG_LEN are on the host's side, which a step keeps; taking the command leaves both. -/
theorem stepNeverWritesMessage : Obligations.StepNeverWritesMessage := by
  intro s t h
  obtain ⟨-, hlen, hmsg, -⟩ := step_hostSideKept h
  exact ⟨hmsg, hlen⟩

end Sys2Proof.Machine
end

section
/-! PROOFS. The constant tables (40_constants.md R100, R103): trial division lists the first primes. -/

namespace Sys2Proof.Machine

/-- The numbers below `n` that satisfy `p`, in increasing order, are the first in the enumeration of `p`. -/
theorem getElem_filter_range_eq_nth (p : Nat → Prop) [DecidablePred p] (n : Nat) :
    ∀ t (h : t < ((List.range n).filter (p ·)).length), ((List.range n).filter (p ·))[t] = Nat.nth p t := by
  induction n with
  | zero => intro t h; cases h
  | succ n ih =>
    rw [List.range_succ, List.filter_append]
    intro t h
    rw [List.getElem_append]
    split
    case isTrue hlt => exact ih t hlt
    case isFalse hge =>
      have hcount : ((List.range n).filter (p ·)).length = Nat.count p n :=
        (Nat.count_eq_card_filter_range p n).symm
      rw [List.length_append] at h
      by_cases hp : p n
      · have ht : t = Nat.count p n := by
          simp only [List.filter_singleton, hp, decide_true, cond_true, List.length_singleton] at h
          omega
        simp [hp, ht, Nat.nth_count]
      · simp only [List.filter_singleton, hp, decide_false, cond_false, List.length_nil] at h
        omega

/-- The primes below `c`, in increasing order: what the derivation has collected when it comes to `c`. -/
def primesUnder (c : Nat) : List Nat := (List.range c).filter (Nat.Prime ·)

@[simp] theorem mem_primesUnder {q c : Nat} : q ∈ primesUnder c ↔ q < c ∧ q.Prime := by
  simp [primesUnder]

theorem primesUnder_succ (c : Nat) : primesUnder (c + 1) = if c.Prime then primesUnder c ++ [c] else primesUnder c := by
  simp only [primesUnder, List.range_succ, List.filter_append]
  by_cases hp : c.Prime <;> simp [hp]

/-- R103: trial division by the primes below `c` decides whether `c` is prime; a composite number has its least factor
among them. -/
theorem primeOver_primesUnder {c : Nat} (hc : 2 ≤ c) : primeOver (primesUnder c) c = true ↔ c.Prime := by
  simp only [primeOver, List.all_eq_true, mem_primesUnder, decide_eq_true_eq, Bool.or_eq_true]
  constructor
  · intro h
    by_contra hnot
    have hsq : c.minFac ^ 2 ≤ c := Nat.minFac_sq_le_self (by omega) hnot
    have hprime : c.minFac.Prime := Nat.minFac_prime (by omega)
    have hlt : c.minFac < c := (Nat.not_prime_iff_minFac_lt hc).mp hnot
    obtain hbig | hmod := h c.minFac ⟨hlt, hprime⟩
    · rw [← sq] at hbig
      omega
    · exact hmod (Nat.mod_eq_zero_of_dvd c.minFac_dvd)
  · rintro h q ⟨hlt, hq⟩
    refine .inr fun hmod => hlt.ne ?_
    exact (Nat.prime_dvd_prime_iff_eq hq h).mp (Nat.dvd_of_mod_eq_zero hmod)

/-- R103: collecting from `c` on, after the primes below `c`, gives the primes below `c + fuel`. -/
theorem primesFrom_primesUnder (fuel : Nat) :
    ∀ {c : Nat}, 2 ≤ c → primesFrom fuel c (primesUnder c) = primesUnder (c + fuel) := by
  induction fuel with
  | zero => intro c _; rfl
  | succ fuel ih =>
    intro c hc
    calc primesFrom (fuel + 1) c (primesUnder c)
      _ = primesFrom fuel (c + 1) (primesUnder (c + 1)) := by
        simp only [primesFrom, primeOver_primesUnder hc, primesUnder_succ]
      _ = primesUnder (c + 1 + fuel) := ih (by omega)
      _ = primesUnder (c + (fuel + 1)) := by rw [Nat.add_right_comm, Nat.add_assoc]

theorem primes64_eq_primesUnder : primes64 = primesUnder 312 := by
  have hnone : primesUnder 2 = [] :=
    List.eq_nil_iff_forall_not_mem.mpr fun q hq =>
      have ⟨hlt, hprime⟩ := mem_primesUnder.mp hq
      absurd hprime.two_le (by omega)
  rw [primes64, ← hnone, primesFrom_primesUnder 310 (Nat.le_refl 2)]

/-- R103: the derivation's list holds the first primes, in order. -/
theorem primes64_getElem (t : Nat) (h : t < primes64.length) : primes64[t] = Nat.nth Nat.Prime t := by
  simp only [primes64_eq_primesUnder] at h ⊢
  exact getElem_filter_range_eq_nth Nat.Prime 312 t h

theorem nth_prime_mem_primes64 {t : Nat} (h : t < 64) : Nat.nth Nat.Prime t ∈ primes64 := by
  have ht : t < primes64.length := by rw [primes64_listed.1]; exact h
  exact primes64_getElem t ht ▸ List.getElem_mem ht

/-- R100 for the primes of the tables: `icbrt` is the integer cube root. -/
theorem icbrt_isRoot {p : Nat} (h : p ∈ primes64) :
    icbrt (p * 2 ^ 96) ^ 3 ≤ p * 2 ^ 96 ∧ p * 2 ^ 96 < (icbrt (p * 2 ^ 96) + 1) ^ 3 := by
  have hp := List.all_eq_true.mp roots_are_roots p h
  simp only [Bool.and_eq_true, decide_eq_true_eq] at hp
  obtain ⟨⟨⟨hle, hlt⟩, -⟩, -⟩ := hp
  exact ⟨hle, hlt⟩

/-- R100 for the primes of the tables: `isqrt` is the integer square root. -/
theorem isqrt_isRoot {p : Nat} (h : p ∈ primes64) :
    isqrt (p * 2 ^ 64) ^ 2 ≤ p * 2 ^ 64 ∧ p * 2 ^ 64 < (isqrt (p * 2 ^ 64) + 1) ^ 2 := by
  have hp := List.all_eq_true.mp roots_are_roots p h
  simp only [Bool.and_eq_true, decide_eq_true_eq] at hp
  obtain ⟨⟨-, hle⟩, hlt⟩ := hp
  exact ⟨hle, hlt⟩

/-- R100: an entry of K is derived from the prime of its index. -/
theorem K_getElem {t : Nat} (h : t < 64) : Config.K[t] = deriveK (Nat.nth Nat.Prime t) := by
  rw [← Vector.getElem_toList (by simpa using h)]
  simp only [K_is_derived, List.getElem_map, primes64_getElem]

/-- R100: an entry of HINIT is derived from the prime of its index. -/
theorem HINIT_getElem {i : Nat} (h : i < 8) : Config.HINIT[i] = deriveH (Nat.nth Nat.Prime i) := by
  rw [← Vector.getElem_toList (by simpa using h)]
  simp only [HINIT_is_derived, List.getElem_map, List.getElem_take, primes64_getElem]

/-- Settles O29: the root is the derivation's, taken of the prime of the entry's index. -/
theorem constantTablesAreFractionalRoots : Obligations.ConstantTablesAreFractionalRoots := by
  constructor
  · rintro ⟨t, ht⟩
    obtain ⟨hle, hlt⟩ := icbrt_isRoot (nth_prime_mem_primes64 ht)
    refine ⟨_, hle, hlt, ?_⟩
    rw [K_getElem ht, deriveK, BitVec.toNat_ofNat]
  · rintro ⟨i, hi⟩
    obtain ⟨hle, hlt⟩ := isqrt_isRoot (nth_prime_mem_primes64 (hi.trans (by decide)))
    refine ⟨_, hle, hlt, ?_⟩
    rw [HINIT_getElem hi, deriveH, BitVec.toNat_ofNat]

end Sys2Proof.Machine
end

section
/-! PROOFS. The bit primitives (41_bit_primitives.md R110 to R118): each function bit by bit, `shr` by its value, and the
composition law of `rotr`. An operation drives its function's value on the result wire by definition, so an obligation is
its function's lemma at the operand wires. -/

namespace Sys2Proof.Machine

/-- R110's reduction mod 32, with the case 0 written apart, is the library's rotation. -/
theorem rotr_eq_rotateRight (x : Word) (n : Nat) : rotr x n = x.rotateRight n := by
  rw [rotr, BitVec.rotateRight_def]
  split
  case isTrue h => simp [h]
  case isFalse => rfl

theorem getLsbD_rotr (x : Word) (n : Nat) {j : Nat} (hj : j < 32) :
    (rotr x n).getLsbD j = x.getLsbD ((j + n) % 32) := by
  rw [rotr_eq_rotateRight, BitVec.getLsbD_rotateRight]
  by_cases hlow : j < 32 - n % 32
  · have hidx : n % 32 + j = (j + n) % 32 := by omega
    simp [hlow, hidx]
  · have hidx : j - (32 - n % 32) = (j + n) % 32 := by omega
    simp [hlow, hj, hidx]

/-- R110: only the count mod 32 matters. -/
theorem rotr_mod (x : Word) (n : Nat) : rotr x (n % 32) = rotr x n := by
  rw [rotr, rotr, Nat.mod_mod]

/-- R118: rotating by 0 is the identity. -/
@[simp] theorem rotr_zero (x : Word) : rotr x 0 = x := if_pos rfl

/-- R110: successive rotations add their counts. -/
theorem rotr_rotr (x : Word) (p q : Nat) : rotr (rotr x p) q = rotr x (p + q) := by
  refine BitVec.eq_of_getLsbD_eq fun j hj => ?_
  have hidx : ((j + q) % 32 + p) % 32 = (j + (p + q)) % 32 := by omega
  rw [getLsbD_rotr _ _ hj, getLsbD_rotr _ _ (Nat.mod_lt _ (by decide)), getLsbD_rotr _ _ hj, hidx]

theorem rotr_iterate (x : Word) (n k : Nat) : (fun y => rotr y n)^[k] x = rotr x (k * n) := by
  induction k with
  | zero => simp
  | succ k ih => rw [Function.iterate_succ_apply', ih, rotr_rotr, Nat.succ_mul]

/-- R111: the two cases of `shr` are the library's one shift, which leaves nothing of a word after 32 places. -/
theorem shr_eq_ushiftRight (x : Word) (n : Nat) : shr x n = x >>> n := by
  rw [shr]
  split
  case isTrue => rfl
  case isFalse h => rw [BitVec.ushiftRight_eq_zero (by omega)]; rfl

theorem toNat_shr (x : Word) (n : Nat) : (shr x n).toNat = x.toNat / 2 ^ n := by
  rw [shr_eq_ushiftRight, BitVec.toNat_ushiftRight, Nat.shiftRight_eq_div_pow]

theorem getLsbD_shr (x : Word) (n j : Nat) : (shr x n).getLsbD j = x.getLsbD (j + n) := by
  rw [shr_eq_ushiftRight, BitVec.getLsbD_ushiftRight, Nat.add_comm]

theorem getLsbD_ch (x y z : Word) {j : Nat} (hj : j < 32) :
    (ch x y z).getLsbD j = if x.getLsbD j = true then y.getLsbD j else z.getLsbD j := by
  simp only [ch, BitVec.getLsbD_xor, BitVec.getLsbD_and, BitVec.getLsbD_not, hj]
  cases x.getLsbD j <;> simp

/-- R113: the three products of two bits have the exclusive or 1 exactly when two or three of the bits are 1. -/
theorem getLsbD_maj (x y z : Word) (j : Nat) :
    (maj x y z).getLsbD j = true ↔
      2 ≤ (x.getLsbD j).toNat + (y.getLsbD j).toNat + (z.getLsbD j).toNat := by
  have hvote : ∀ a b c : Bool, ((a && b) ^^ (a && c) ^^ (b && c)) = true ↔ 2 ≤ a.toNat + b.toNat + c.toNat := by
    decide
  simpa only [maj, BitVec.getLsbD_xor, BitVec.getLsbD_and] using hvote _ _ _

theorem getLsbD_bsig0 (x : Word) {j : Nat} (hj : j < 32) :
    (bsig0 x).getLsbD j =
      (x.getLsbD ((j + 2) % 32) ^^ x.getLsbD ((j + 13) % 32) ^^ x.getLsbD ((j + 22) % 32)) := by
  simp only [bsig0, BitVec.getLsbD_xor, getLsbD_rotr _ _ hj]

theorem getLsbD_bsig1 (x : Word) {j : Nat} (hj : j < 32) :
    (bsig1 x).getLsbD j =
      (x.getLsbD ((j + 6) % 32) ^^ x.getLsbD ((j + 11) % 32) ^^ x.getLsbD ((j + 25) % 32)) := by
  simp only [bsig1, BitVec.getLsbD_xor, getLsbD_rotr _ _ hj]

theorem getLsbD_ssig0 (x : Word) {j : Nat} (hj : j < 32) :
    (ssig0 x).getLsbD j =
      (x.getLsbD ((j + 7) % 32) ^^ x.getLsbD ((j + 18) % 32) ^^ x.getLsbD (j + 3)) := by
  simp only [ssig0, BitVec.getLsbD_xor, getLsbD_rotr _ _ hj, getLsbD_shr]

theorem getLsbD_ssig1 (x : Word) {j : Nat} (hj : j < 32) :
    (ssig1 x).getLsbD j =
      (x.getLsbD ((j + 17) % 32) ^^ x.getLsbD ((j + 19) % 32) ^^ x.getLsbD (j + 10)) := by
  simp only [ssig1, BitVec.getLsbD_xor, getLsbD_rotr _ _ hj, getLsbD_shr]

/-- Settles O24: the library's rotation moves the low bits down by the reduced count and brings the others round. -/
theorem rotrMovesEachBit : Obligations.RotrMovesEachBit :=
  fun s => ⟨rotr s.fu.x s.fu.n, rfl, fun _ hj => getLsbD_rotr _ _ hj⟩

/-- Settles O25: one shift for every count, and a shift right is a division. -/
theorem shrDividesByPowerOfTwo : Obligations.ShrDividesByPowerOfTwo :=
  fun s => ⟨shr s.fu.x s.fu.n, rfl, toNat_shr _ _⟩

/-- Settles O26, by the truth tables of one bit. -/
theorem chChoosesAndMajVotes : Obligations.ChChoosesAndMajVotes :=
  fun s => ⟨ch s.fu.x s.fu.y s.fu.z, maj s.fu.x s.fu.y s.fu.z, rfl, rfl,
    fun j hj => ⟨getLsbD_ch _ _ _ hj, getLsbD_maj _ _ _ j⟩⟩

/-- Settles O27: the bits of the rotations and of the shift, which beyond the top are 0. -/
theorem sigmasMixThreeBits : Obligations.SigmasMixThreeBits :=
  fun s => ⟨bsig0 s.fu.x, bsig1 s.fu.x, ssig0 s.fu.x, ssig1 s.fu.x, rfl, rfl, rfl, rfl,
    fun _ hj => ⟨getLsbD_bsig0 _ hj, getLsbD_bsig1 _ hj, getLsbD_ssig0 _ hj, getLsbD_ssig1 _ hj⟩⟩

/-- Settles O28: 32 rotations by `n` are one by `32 * n`, and a count divisible by 32 is the count 0. -/
theorem rotrThirtyTwoTimesIsIdentity : Obligations.RotrThirtyTwoTimesIsIdentity := by
  intro x n
  have hturn (k : Nat) : rotr x (32 * k) = x := by
    rw [← rotr_mod, Nat.mul_mod_right, rotr_zero]
  exact ⟨rotr_zero x, hturn 1, (rotr_iterate x n 32).trans (hturn n)⟩

end Sys2Proof.Machine
end

section
/-! PROOFS. The padder (42_padder.md R120 to R127): the tail PAD builds and its dispatch at the first window, and the three
block operations, each of which fills B with 64 bytes of the padded stream. -/

namespace Sys2Proof.Machine

/-- R120: the post-condition PAD checks always holds, so PAD is its writes and the dispatch with I = 0. -/
theorem exec_pad (s : State) : exec .pad s = .next ((s.padWrites s.readLEN).dispatch 0) :=
  congrArg Host.Outcome.next (if_neg (not_not.mpr (padCheck s.readLEN)))

theorem Abandoned.of_padWrites {s t : State} {len : Nat} (h : Abandoned (s.padWrites len) t) : Abandoned s t := h

theorem exec_pad_of_aborted {s : State} (ha : s.ABORT_PENDING = true) :
    exec .pad s = .next (s.padWrites s.readLEN).abandon :=
  (exec_pad s).trans (congrArg Host.Outcome.next (if_pos ha))

/-- TOTAL of an admitted length is at least one window (R124), so the dispatch with I = 0 neither ends the computation nor
raises. -/
theorem exec_pad_of_not_aborted {s : State} {n : U64} (hn : s.LEN = some n) (hlt : n.toNat < 2 ^ 61)
    (ha : s.ABORT_PENDING = false) :
    exec .pad s = .next ((s.padWrites n.toNat).goTo (selectBlock 0 n.toNat)) := by
  have htotal : (s.padWrites n.toNat).readTOTAL = n.toNat + tailLen n.toNat := by
    have hfit := total_lt n.toNat hlt
    rw [State.readTOTAL_of (s.padWrites_TOTAL_of_lt (by omega)), BitVec.toNat_ofNat, Nat.mod_eq_of_lt (by omega)]
  have hwindow := (total_mod n.toNat).2
  rw [exec_pad, State.readLEN_of hn]
  obtain ⟨h, -⟩ | ⟨-, h, -⟩ | ⟨-, -, h, -⟩ | ⟨-, -, h⟩ := (s.padWrites n.toNat).dispatch_cases 0
  · rw [State.padWrites_ABORT_PENDING, ha] at h
    cases h
  · omega
  · omega
  · rw [h, State.readLEN_of (s := s.padWrites n.toNat) hn]

/-- R73: a big-endian byte of a number that fits 64 bits. -/
theorem byteBe64_ofNat {v : Nat} (h : v < 2 ^ 64) (k : Nat) :
    byteBe64 (BitVec.ofNat 64 v) k = BitVec.ofNat 8 ((v >>> (8 * (7 - k))) % 256) := by
  apply BitVec.eq_of_toNat_eq
  simp only [byteBe64, BitVec.toNat_setWidth, BitVec.toNat_ushiftRight, BitVec.toNat_ofNat, Nat.mod_eq_of_lt h]
  omega

/-- R71, R120: the tail of an admitted length, element by element. -/
theorem padTail_bitLength {len : Nat} (h : len < 2 ^ 61) :
    padTail len (bitLength len) =
      Vector.ofFn fun j : Fin 72 =>
        if j.val = 0 then some 0x80
        else if j.val ≤ tailLen len - 9 then some 0x00
        else if j.val < tailLen len then
          some (BitVec.ofNat 8 (((8 * len) >>> (8 * (7 - (j.val - (tailLen len - 8))))) % 256))
        else none := by
  have hlen := (tailLen_bounds len).1
  unfold padTail
  refine congrArg Vector.ofFn (funext fun j => ?_)
  have hbyte (k : Nat) := byteBe64_ofNat (v := 8 * len) (by omega) k
  have hmiddle : j.val + 9 ≤ tailLen len ↔ j.val ≤ tailLen len - 9 := by omega
  simp only [tailByte, bitLength, hbyte, hmiddle]
  by_cases hfirst : j.val = 0
  · rw [if_pos (by omega), if_pos hfirst, if_pos hfirst]
  by_cases hzero : j.val ≤ tailLen len - 9
  · rw [if_pos (by omega), if_neg hfirst, if_neg hfirst, if_pos hzero, if_pos hzero]
  · rw [if_neg hfirst, if_neg hfirst, if_neg hzero, if_neg hzero]

/-- R120 for an admitted length, the numbers fitting their registers. -/
theorem State.padWrites_of_lt (s : State) {len : Nat} (h : len < 2 ^ 61) :
    s.padWrites len =
      { s with
        L := some (BitVec.ofNat 64 (8 * len))
        PADBITS := some (BitVec.ofNat 9 (padBits (8 * len)))
        TLEN := some (BitVec.ofNat 7 (tailLen len))
        T := padTail len (bitLength len)
        TOTAL := some (BitVec.ofNat 64 (len + tailLen len))
        draw := s.draw + 1 } := by
  have hfit := total_lt len h
  rw [padWrites, s.fit64_of_lt .L (by omega), s.fit64_of_lt .TOTAL (by omega), bitLength]

/-- R128 at the first window. -/
theorem selectBlock_zero_op (len : Nat) :
    (selectBlock 0 len).op = if 64 ≤ len then 2 else if len = 0 then 3 else 4 := by
  obtain ⟨h, hsel⟩ | ⟨h, hsel⟩ | ⟨hpos, h, hsel⟩ := selectBlock_cases 0 len <;> rw [hsel]
  · rw [if_pos (by omega), Instr.op]
  · rw [if_neg (by omega), if_pos (by omega), Instr.op]
  · rw [if_neg (by omega), if_neg (by omega), Instr.op]

@[simp] theorem selectBlock_tctr (i len : Nat) : (selectBlock i len).tctr = 0 := by
  obtain ⟨-, hsel⟩ | ⟨-, hsel⟩ | ⟨-, -, hsel⟩ := selectBlock_cases i len <;> rw [hsel, Instr.tctr]

/-- Settles O13: PAD is its writes and the dispatch; the statement's formulas are those of the model, the tail written out. -/
theorem padBuildsTail : Obligations.PadBuildsTail := by
  intro s n hn hlt lb pb tl
  constructor
  · intro ha
    exact ⟨_, exec_pad_of_aborted ha, .of_padWrites (State.abandon_entered _)⟩
  · intro ha
    refine ⟨_, exec_pad_of_not_aborted hn hlt ha, ?_⟩
    rw [State.goTo, selectBlock_zero_op, selectBlock_tctr, s.padWrites_of_lt hlt, padTail_bitLength hlt]
    rfl

/-- R125 to R127: a block operation changes B and `pc` alone. -/
theorem State.fillBlock_eq (s : State) {byte : Nat → Byte} {block : Fin 64 → Option Byte}
    (h : ∀ j : Fin 64, some (byte j.val) = block j) :
    s.fillBlock byte = { s with B := Vector.ofFn block, OP := 5, TCTR := 0 } := by
  have hblock : fullBlock byte = Vector.ofFn block := by
    rw [fullBlock]
    exact congrArg _ (funext h)
  rw [← hblock]
  rfl

/-- Settles O15: every byte an operation reads lies below LEN or in the part of T that holds values. -/
theorem blockFillsFromPaddedStream : Obligations.BlockFillsFromPaddedStream := by
  intro s n i tb hn hi
  have hlen := State.readLEN_of hn
  have hoff := State.readI_of hi
  refine ⟨fun hmsg => congrArg Host.Outcome.next (s.fillBlock_eq fun j => ?_),
    fun htail hT => congrArg Host.Outcome.next (s.fillBlock_eq fun j => ?_),
    fun hlt hgt hT => congrArg Host.Outcome.next (s.fillBlock_eq fun j => ?_)⟩
  · rw [hoff, State.readMSG_of hn (by omega)]
  · rw [hoff, hlen, if_pos (by omega), Nat.sub_add_comm htail, State.readT_of (hT j.val j.isLt)]
  · rw [hoff, hlen]
    by_cases hj : j.val < n.toNat - i.toNat
    · rw [if_pos (by omega), if_pos hj, State.readMSG_of hn (by omega)]
    · have hidx : i.toNat + j.val - n.toNat = j.val - (n.toNat - i.toNat) := by omega
      rw [if_neg (by omega), if_neg hj, hidx, State.readT_of (hT _ (by omega))]

end Sys2Proof.Machine
end

section
/-! PROOFS. The compressor (43_compressor.md R141 to R148): one lemma per operation says what it answers where the registers
it reads hold values; an obligation is that lemma with the words written out. -/

namespace Sys2Proof.Machine

/-! ### The pair an indexed operation leaves in `pc` -/

/-- R31, R82: the pair of one of two micro-operations is written field by field. -/
theorem State.goTo_ite (s : State) (c : Prop) [Decidable c] (i j : Instr) :
    s.goTo (if c then i else j) =
      { s with OP := if c then i.op else j.op, TCTR := if c then i.tctr else j.tctr } := by
  rw [State.goTo, apply_ite Instr.op, apply_ite Instr.tctr]

/-- R11: adding a number to a value and keeping `w` bits is the addition of `w` bits. -/
theorem ofNat_toNat_add {w : Nat} (x : BitVec w) (k : Nat) : BitVec.ofNat w (x.toNat + k) = x + BitVec.ofNat w k := by
  rw [BitVec.ofNat_add, BitVec.ofNat_toNat, BitVec.setWidth_eq]

/-- R82: LOADW's 4-bit index stands in the 6 bits of TCTR. -/
theorem loadw_succ_tctr {t : BitVec 4} (h : t.toNat < 15) :
    (Instr.loadw (t + 1)).tctr = BitVec.ofNat 6 (t.toNat + 1) := by
  rw [Instr.tctr, ← BitVec.ofNat_toNat, toNat_succ4 t h]

/-! ### The schedule -/

/-- R141. -/
theorem exec_loadw_of_held {s : State} {t : BitVec 4} {b0 b1 b2 b3 : Byte}
    (h0 : s.B[4 * t.toNat]? = some (some b0)) (h1 : s.B[4 * t.toNat + 1]? = some (some b1))
    (h2 : s.B[4 * t.toNat + 2]? = some (some b2)) (h3 : s.B[4 * t.toNat + 3]? = some (some b3)) :
    exec (.loadw t) s =
      .next
        { s.goTo (if t.toNat < 15 then .loadw (t + 1) else .expand 16) with
          W := s.W.setIfInBounds t.toNat (some (be32 b0 b1 b2 b3)) } := by
  rw [exec, execLoadw, State.readB_of h0, State.readB_of h1, State.readB_of h2, State.readB_of h3]

/-- R142, for the indices that are no reserved encoding. -/
theorem exec_expand_of_held {s : State} {t : BitVec 6} {w2 w7 w15 w16 : Word} (ht : 16 ≤ t.toNat)
    (h2 : s.W[t.toNat - 2]? = some (some w2)) (h7 : s.W[t.toNat - 7]? = some (some w7))
    (h15 : s.W[t.toNat - 15]? = some (some w15)) (h16 : s.W[t.toNat - 16]? = some (some w16)) :
    exec (.expand t) s =
      .next
        { s.goTo (if t.toNat < 63 then .expand (t + 1) else .initv) with
          W := s.W.setIfInBounds t.toNat (some (expandWord w2 w7 w15 w16)) } := by
  rw [exec, execExpand, if_neg (Nat.not_lt.mpr ht), State.readW_of h2, State.readW_of h7, State.readW_of h15,
    State.readW_of h16]

/-- R11, R142: the additions on words are one sum of their values modulo 2^32. -/
theorem expandWord_eq_ofNat (w2 w7 w15 w16 : Word) :
    expandWord w2 w7 w15 w16 =
      BitVec.ofNat 32 ((ssig1 w2).toNat + w7.toNat + (ssig0 w15).toNat + w16.toNat) := by
  simp only [expandWord, BitVec.ofNat_add, BitVec.ofNat_toNat, BitVec.setWidth_eq]

/-- Settles O16: the word is `be32` of the four bytes, a number by its places. -/
theorem loadwLoadsBigEndianWord : Obligations.LoadwLoadsBigEndianWord := by
  intro s t b0 b1 b2 b3 h0 h1 h2 h3
  rw [exec_loadw_of_held h0 h1 h2 h3, State.goTo_ite, be32_eq]
  by_cases ht : t.toNat < 15
  · simp only [if_pos ht, loadw_succ_tctr ht, Instr.op]
  · simp only [if_neg ht, Instr.op, Instr.tctr]

/-- Settles O17: additions modulo 2^32, and the index after `t`. -/
theorem expandDerivesScheduleWord : Obligations.ExpandDerivesScheduleWord := by
  intro s t w2 w7 w15 w16 ht h2 h7 h15 h16
  rw [exec_expand_of_held ht h2 h7 h15 h16, State.goTo_ite, expandWord_eq_ofNat]
  simp only [ofNat_toNat_add, Instr.op, Instr.tctr, BitVec.ofNat_eq_ofNat]

/-! ### The working variables and the hash state -/

/-- R144: the reference's variables before round 0, whatever the block. -/
theorem exec_initv_of_held {s : State} {h : Vector Word 8} (hH : s.H = h.map some) (blk : Nat → Byte) :
    exec .initv s = .next { s.goTo (.round 0) with wv := (roundsUpTo h blk 0).held } := by
  simp only [exec, execInitv, State.readH_map hH, roundsUpTo, Nat.reduceLT]

/-- R145. -/
theorem exec_round_of_held {s : State} {t : BitVec 6} {v : Vars} {w : Word} (hv : s.wv = v.held)
    (hw : s.W[t.toNat]? = some (some w)) :
    exec (.round t) s =
      .next
        { s.goTo (if t.toNat < 63 then .round (t + 1) else .fold) with
          wv := (roundUpdate v (Config.kAt t) w).held } := by
  rw [exec, execRound, State.readVars_of hv, State.readW_of hw]

theorem map_some_foldInto (h : Vector Word 8) (v : Vars) :
    (foldInto h v).map some =
      #v[some (h[0] + v.a), some (h[1] + v.b), some (h[2] + v.c), some (h[3] + v.d), some (h[4] + v.e),
        some (h[5] + v.f), some (h[6] + v.g), some (h[7] + v.h)] := by
  simp [foldInto]

/-- R146: FOLD is the reference's `foldInto`. -/
theorem exec_fold_of_held {s : State} {h : Vector Word 8} {v : Vars} (hv : s.wv = v.held) (hH : s.H = h.map some) :
    exec .fold s = .next { s.goTo .next with H := (foldInto h v).map some } := by
  simp only [exec, execFold, State.readVars_of hv, State.readH_map hH, Nat.reduceLT, map_some_foldInto]

/-- Settles O18: the eight words H holds are the variables before round 0. -/
theorem initvCopiesHashState : Obligations.InitvCopiesHashState := by
  intro s h0 h1 h2 h3 h4 h5 h6 h7 hH
  have hmap : s.H = (#v[h0, h1, h2, h3, h4, h5, h6, h7]).map some := hH.trans (by simp)
  rw [exec_initv_of_held hmap fun _ => 0]
  rfl

/-- Settles O19: the update of a round at the eight words a..h hold. -/
theorem roundMixesWorkingVariables : Obligations.RoundMixesWorkingVariables := by
  intro s t a b c d e f g h w hv hw t1 t2
  rw [exec_round_of_held (v := ⟨a, b, c, d, e, f, g, h⟩) hv hw, State.goTo_ite, ofNat_toNat_add]
  rfl

/-- Settles O20: the reference's fold at the words a..h and H hold. -/
theorem foldAddsIntoHashState : Obligations.FoldAddsIntoHashState := by
  intro s a b c d e f g h h0 h1 h2 h3 h4 h5 h6 h7 hv hH
  have hmap : s.H = (#v[h0, h1, h2, h3, h4, h5, h6, h7]).map some := hH.trans (by simp)
  rw [exec_fold_of_held (v := ⟨a, b, c, d, e, f, g, h⟩) hv hmap, map_some_foldInto]
  rfl

/-! ### The next window: the dispatch step's four tests, in their order (44_control.md R171), and NEXT -/

theorem State.dispatch_of_pending {s : State} (ha : s.ABORT_PENDING = true) (i : Nat) : s.dispatch i = s.abandon :=
  if_pos ha

theorem State.dispatch_of_eq_total {s : State} {i : Nat} (ha : s.ABORT_PENDING = false) (hi : i = s.readTOTAL) :
    s.dispatch i = s.goTo .emit := by
  rw [State.dispatch, if_neg (by simp [ha]), if_pos hi]

theorem State.dispatch_of_short {s : State} {i : Nat} (ha : s.ABORT_PENDING = false) (hi : i ≠ s.readTOTAL)
    (hshort : s.readTOTAL < i + 64) : s.dispatch i = s.raise .invariantViolation := by
  rw [State.dispatch, if_neg (by simp [ha]), if_neg hi, if_pos hshort]

theorem State.dispatch_of_window {s : State} {i : Nat} (ha : s.ABORT_PENDING = false) (hi : i + 64 ≤ s.readTOTAL) :
    s.dispatch i = s.goTo (selectBlock i s.readLEN) := by
  rw [State.dispatch, if_neg (by simp [ha]), if_neg (by omega), if_neg (by omega)]

/-- R128: the code of the selected operation. -/
theorem selectBlock_op (i len : Nat) :
    (selectBlock i len).op = if i + 64 ≤ len then 2 else if len ≤ i then 3 else 4 := by
  rw [selectBlock, apply_ite Instr.op, apply_ite Instr.op, Instr.op, Instr.op, Instr.op]

/-- R28, R147: `I + 64` fits. -/
theorem State.advance_of_lt {s : State} {i : U64} (hi : s.I = some i) (h : i.toNat + 64 < 2 ^ 64) :
    s.advance = { s with I := some (i + 64) } := by
  rw [State.advance, State.readI_of hi, s.fit64_of_lt .I h, ofNat_toNat_add]
  rfl

/-- R147: NEXT is the advance and the dispatch with the new I. -/
theorem exec_next_of_held {s : State} {i : U64} (hi : s.I = some i) (h : i.toNat + 64 < 2 ^ 64) :
    exec .next s = .next (s.advance.dispatch (i.toNat + 64)) := by
  have hnew : s.advance.readI = i.toNat + 64 := by
    rw [State.readI, State.advance_I, State.readI_of hi, s.fit64_of_lt .I h, held_some, BitVec.toNat_ofNat,
      Nat.mod_eq_of_lt h]
  rw [exec, execNext, hnew]

/-- Settles O21, one clause for each of the dispatch's four tests. -/
theorem nextAdvancesAndDispatches : Obligations.NextAdvancesAndDispatches := by
  intro s n i tot hn hi htot hfit
  have hlen : s.advance.readLEN = n.toNat := State.readLEN_of hn
  have htotal : s.advance.readTOTAL = tot.toNat := State.readTOTAL_of htot
  rw [exec_next_of_held hi hfit]
  refine ⟨fun ha => ?_, fun ha hend => ?_, fun ha hend hshort => ?_, fun ha hwindow => ?_⟩
  · rw [State.dispatch_of_pending (s := s.advance) ha]
    exact ⟨_, rfl, s.advance.abandon_entered⟩
  · rw [State.dispatch_of_eq_total (s := s.advance) ha (by rwa [htotal]), State.advance_of_lt hi hfit]
    rfl
  · rw [State.dispatch_of_short (s := s.advance) ha (by rwa [htotal]) (by omega)]
    exact ⟨_, rfl, s.advance.raise_entered _⟩
  · rw [State.dispatch_of_window (s := s.advance) ha (by omega), State.goTo, hlen, selectBlock_op, selectBlock_tctr,
      Nat.add_assoc, State.advance_of_lt hi hfit]

/-! ### The digest -/

/-- R11: a big-endian byte as a digit. -/
theorem byteBe32_eq_ofNat (x : Word) (k : Nat) :
    byteBe32 x k = BitVec.ofNat 8 (x.toNat / 2 ^ (8 * (3 - k)) % 256) := by
  apply BitVec.eq_of_toNat_eq
  simp only [byteBe32, BitVec.toNat_setWidth, BitVec.toNat_ushiftRight, BitVec.toNat_ofNat, Nat.shiftRight_eq_div_pow]
  omega

/-- R75: where the byte `k` of the word `i` stands. -/
theorem State.hashBytes_get? (s : State) (i : Fin 8) (k : Fin 4) :
    s.hashBytes[4 * i.val + k.val]? = some (byteBe32 (s.readH i.val) k.val) := by
  have hword : (4 * i.val + k.val) / 4 = i.val := by omega
  have hbyte : (4 * i.val + k.val) % 4 = k.val := by omega
  have hlt : 4 * i.val + k.val < 32 := by omega
  rw [State.hashBytes, Vector.getElem?_eq_getElem hlt, Vector.getElem_ofFn]
  simp only [hword, hbyte]

/-- Settles O22: each digest byte is a digit of its hash word; R40 leaves the other data registers without a value. -/
theorem emitSerialisesDigest : Obligations.EmitSerialisesDigest := by
  intro s h hH
  refine ⟨_, s.hashBytes, rfl, rfl, rfl, rfl, rfl, fun i k => ?_, rfl, rfl, ?_, rfl, rfl, ?_⟩
  · rw [s.hashBytes_get?, State.readH_of (hH i), byteBe32_eq_ofNat]
  · simp [DataForgotten]
  · simp [HostSideKept]

end Sys2Proof.Machine
end

section
/-! PROOFS. The host commands NONE, the reserved code 3, and START (44_control.md R161, R163): what START answers in each of
its three branches. -/

namespace Sys2Proof.Machine

/-! ### NONE and the reserved code -/

theorem exec_cmdNone (s : State) : exec .cmdNone s = .next s := rfl

/-- R163: the reserved code acts as NONE. -/
theorem exec_cmdReserved (s : State) : exec .cmdReserved s = .next s := rfl

/-- Settles O9: the two codes by evaluation, the two commands in every state. -/
theorem noneAndReservedCommandChangeNothing : Obligations.NoneAndReservedCommandChangeNothing :=
  ⟨rfl, rfl, fun s => ⟨exec_cmdNone s, exec_cmdReserved s⟩⟩

/-! ### START -/

/-- R160: ignored while BUSY. -/
theorem exec_start_of_busy {s : State} (hb : s.STATUS = .busy) : exec .start s = .next s := by
  rw [exec, execStart, if_pos hb]

/-- R161, R202: a length of 2^61 or more is fault entry alone; nothing of an accepted START is written. -/
theorem exec_start_of_too_long {s : State} (hb : s.STATUS ≠ .busy) (hlen : 2 ^ 61 ≤ s.MSG_LEN.toNat) :
    exec .start s = .next (s.raise .inputTooLarge) := by
  rw [exec, execStart, if_neg hb, if_pos hlen]

theorem exec_start_of_admitted {s : State} (hb : s.STATUS ≠ .busy) (hlen : s.MSG_LEN.toNat < 2 ^ 61) :
    exec .start s = .next s.begin := by
  rw [exec, execStart, if_neg hb, if_neg (Nat.not_le.mpr hlen)]

/-- R102: the initial hash table in the hash registers, word by word. -/
theorem HINIT_map_some :
    Config.HINIT.map some =
      #v[some 0x6a09e667, some 0xbb67ae85, some 0x3c6ef372, some 0xa54ff53a, some 0x510e527f, some 0x9b05688c,
        some 0x1f83d9ab, some 0x5be0cd19] := by
  simp [Config.HINIT]

/-- Settles O10, one clause for each branch of R161: ignored, fault entry (R205), and `State.begin`, whose H and `pc` are
written out. -/
theorem startBeginsComputation : Obligations.StartBeginsComputation := by
  intro s
  refine ⟨exec_start_of_busy, fun hb hlen => ?tooLong, fun hb hlen => ?admitted⟩
  case tooLong => exact ⟨_, exec_start_of_too_long hb hlen, s.raise_entered .inputTooLarge⟩
  case admitted => rw [exec_start_of_admitted hb hlen, State.begin, HINIT_map_some, State.goTo, Instr.op, Instr.tctr]

end Sys2Proof.Machine
end

section
/-! PROOFS. The encoding (30_encoding.md R80 to R88): decoding and encoding are inverse on the words of each format. -/

namespace Sys2Proof.Machine

/-! ### Numbers and words of a format -/

/-- R80: a word that decodes fits its format. -/
theorem lt_of_decode_ok {fmt : Format} {w : Nat} {i : Instr} (h : decode fmt w = .ok i) : w < 2 ^ fmt.width := by
  by_contra hw
  simp only [decode, if_pos (Nat.not_lt.mp hw)] at h
  cases h

theorem decode_primitive (c : BitVec 3) : decode .f c.toNat = .ok (decodeF c) := by revert c; decide

theorem decodeF_format (c : BitVec 3) : (decodeF c).format = .f := by revert c; decide

/-- R84: the number of a command is its code. -/
theorem encode_decodeC (c : BitVec 2) : encode (decodeC c) = c.toNat := by revert c; decide

/-- R87: the number of a primitive is its code. -/
theorem encode_decodeF (c : BitVec 3) : encode (decodeF c) = c.toNat := by revert c; decide

theorem encode_of_format_u {i : Instr} (hf : i.format = .u) : encode i = microWord i.op i.tctr := by
  cases i
  case cmdNone | start | abort | cmdReserved | rotr | shr | ch | maj | bsig0 | bsig1 | ssig0 | ssig1 => cases hf
  all_goals rfl

/-- EXPAND is the one operation that may be ill formed (R88). -/
theorem wellFormed_of_format_ne_u {i : Instr} (hf : i.format ≠ .u) : i.wellFormed = true := by
  cases i
  case expand => exact absurd rfl hf
  all_goals rfl

/-- R82: the word of the two parts of a number is the number. -/
theorem microWord_ofNat {w : Nat} (h : w < 2 ^ 10) : microWord (BitVec.ofNat 4 (w / 64)) (BitVec.ofNat 6 (w % 64)) = w := by
  simp only [microWord, BitVec.toNat_ofNat]
  omega

/-! ### What a number decodes to, by its format -/

theorem decode_c_ok {w : Nat} {i : Instr} (h : decode .c w = .ok i) :
    i = decodeC (BitVec.ofNat 2 w) ∧ (BitVec.ofNat 2 w).toNat = w := by
  have hw : (BitVec.ofNat 2 w).toNat = w := Nat.mod_eq_of_lt (lt_of_decode_ok h)
  rw [← hw, decode_command] at h
  exact ⟨(Decoded.ok.inj h).symm, hw⟩

theorem decode_f_ok {w : Nat} {i : Instr} (h : decode .f w = .ok i) :
    i = decodeF (BitVec.ofNat 3 w) ∧ (BitVec.ofNat 3 w).toNat = w := by
  have hw : (BitVec.ofNat 3 w).toNat = w := Nat.mod_eq_of_lt (lt_of_decode_ok h)
  rw [← hw, decode_primitive] at h
  exact ⟨(Decoded.ok.inj h).symm, hw⟩

theorem decode_u_ok {w : Nat} {i : Instr} (h : decode .u w = .ok i) :
    decodeU (BitVec.ofNat 4 (w / 64)) (BitVec.ofNat 6 (w % 64)) = .ok i ∧
      microWord (BitVec.ofNat 4 (w / 64)) (BitVec.ofNat 6 (w % 64)) = w := by
  have hw := microWord_ofNat (lt_of_decode_ok h)
  rw [← hw, decode_microWord] at h
  exact ⟨h, hw⟩

/-- Settles O1: a micro-operation by the pair its rule writes, a command and a primitive by the table of codes. -/
theorem decodeOfEncodeIsIdentity : Obligations.DecodeOfEncodeIsIdentity := by
  intro i hw
  cases hf : i.format
  case u => rw [encode_of_format_u hf, decode_microWord, decodeU_pair i hf hw]
  case c | f =>
    cases i
    case cmdNone | start | abort | cmdReserved | rotr | shr | ch | maj | bsig0 | bsig1 | ssig0 | ssig1 => cases hf <;> rfl
    all_goals cases hf

/-- Settles O2, format by format: the word is the number of its code, or of the pair it decodes as. -/
theorem encodeOfDecodeIsIdentity : Obligations.EncodeOfDecodeIsIdentity := by
  intro fmt w i h
  cases fmt
  case c =>
    obtain ⟨rfl, hw⟩ := decode_c_ok h
    have hf := decodeC_format (BitVec.ofNat 2 w)
    exact ⟨hf, (encode_decodeC _).trans hw, wellFormed_of_format_ne_u (by simp [hf])⟩
  case u =>
    obtain ⟨hd, hw⟩ := decode_u_ok h
    obtain ⟨hf, hop, ht, hwf⟩ := decodeU_sound hd
    exact ⟨hf, by rw [encode_of_format_u hf, hop, ht, hw], hwf⟩
  case f =>
    obtain ⟨rfl, hw⟩ := decode_f_ok h
    have hf := decodeF_format (BitVec.ofNat 3 w)
    exact ⟨hf, (encode_decodeF _).trans hw, wellFormed_of_format_ne_u (by simp [hf])⟩

/-- Settles O4, by evaluating the decoder on the eight words. -/
theorem sampleWordsDecode : Obligations.SampleWordsDecode :=
  ⟨rfl, rfl, rfl, rfl, rfl, rfl, rfl, rfl⟩

end Sys2Proof.Machine
end

section
/-! PROOFS. What each operation can do (44_control.md R160 to R174): the operations of a block change registers and `pc` alone and
name the next one, PAD and NEXT end in the dispatch step, EMIT ends the computation; and what a step of the core runs. -/

namespace Sys2Proof.Machine

/-! ### The operations of a block -/

/-- The operations from the block operation to FOLD (43_compressor.md R152), EXPAND at the indices it has (R88). -/
def midBlock : Instr → Bool
  | .blkMsg | .blkTail | .blkMerge | .loadw _ | .initv | .round _ | .fold => true
  | .expand t => decide (16 ≤ t.toNat)
  | .cmdNone | .start | .abort | .cmdReserved | .idle | .pad | .next | .emit | .rotr | .shr | .ch | .maj | .bsig0
  | .bsig1 | .ssig0 | .ssig1 => false

/-- The micro-operation an operation of a block names as the next (43_compressor.md R141 to R146); any other operation itself. -/
def blockSucc : Instr → Instr
  | .blkMsg | .blkTail | .blkMerge => .loadw 0
  | .loadw t => if t.toNat < 15 then .loadw (t + 1) else .expand 16
  | .expand t => if t.toNat < 63 then .expand (t + 1) else .initv
  | .initv => .round 0
  | .round t => if t.toNat < 63 then .round (t + 1) else .fold
  | .fold => .next
  | i => i

/-- Nothing but H, a..h, W, B and `pc` differs. -/
def BlockFrame (s t : State) : Prop :=
  t = { s with H := t.H, wv := t.wv, W := t.W, B := t.B, OP := t.OP, TCTR := t.TCTR }

/-- `pc` names the micro-operation `i`. -/
structure Names (s : State) (i : Instr) : Prop where
  op : s.OP = i.op
  tctr : s.TCTR = i.tctr

/-- What can stand next in a computation: a micro-operation other than IDLE that has a code. -/
structure IsActive (i : Instr) : Prop where
  micro : i.format = .u
  wellFormed : i.wellFormed = true
  notIdle : i ≠ .idle

theorem Names.decodes {s : State} {i : Instr} (h : Names s i) (hi : IsActive i) : decodeU s.OP s.TCTR = .ok i := by
  rw [h.op, h.tctr, decodeU_pair i hi.micro hi.wellFormed]

/-- R152: each of them completes in every state. -/
theorem exec_midBlock {i : Instr} (hi : midBlock i = true) (s : State) :
    ∃ t, exec i s = .next t ∧ BlockFrame s t ∧ Names t (blockSucc i) ∧ (i ≠ .fold → t.H = s.H) := by
  cases i
  case expand x =>
    have hx : ¬x.toNat < 16 := Nat.not_lt.mpr (of_decide_eq_true hi)
    exact ⟨_, if_neg hx, rfl, ⟨rfl, rfl⟩, fun _ => rfl⟩
  case blkMsg | blkTail | blkMerge | loadw | initv | round => exact ⟨_, rfl, rfl, ⟨rfl, rfl⟩, fun _ => rfl⟩
  case fold => exact ⟨_, rfl, rfl, ⟨rfl, rfl⟩, fun h => absurd rfl h⟩
  all_goals cases hi

theorem midBlock_active {i : Instr} (hi : midBlock i = true) : IsActive i := by
  cases i
  case blkMsg | blkTail | blkMerge | loadw | expand | initv | round | fold => exact ⟨rfl, hi, nofun⟩
  all_goals cases hi

theorem blockSucc_active {i : Instr} (hi : midBlock i = true) : IsActive (blockSucc i) := by
  cases i
  case loadw | round => rw [blockSucc]; split <;> exact ⟨rfl, rfl, nofun⟩
  case expand t =>
    rw [blockSucc]
    split
    case isTrue hlt =>
      have h16 : 16 ≤ t.toNat := of_decide_eq_true hi
      exact ⟨rfl, decide_eq_true (by rw [toNat_succ6 t hlt]; omega), nofun⟩
    case isFalse => exact ⟨rfl, rfl, nofun⟩
  case blkMsg | blkTail | blkMerge | initv | fold => exact ⟨rfl, rfl, nofun⟩
  all_goals cases hi

theorem selectBlock_midBlock (i len : Nat) : midBlock (selectBlock i len) = true := by
  obtain ⟨-, hsel⟩ | ⟨-, hsel⟩ | ⟨-, -, hsel⟩ := selectBlock_cases i len <;> rw [hsel, midBlock]

/-- Settles O36: the frame of an operation of a block, field by field. -/
theorem nothingStopsTheCoreMidBlock : Obligations.NothingStopsTheCoreMidBlock := by
  intro i s hi
  have hmid : midBlock i = true := by
    obtain rfl | rfl | rfl | ⟨t, rfl⟩ | ⟨t, rfl, ht⟩ | rfl | ⟨t, rfl⟩ | rfl := hi
    case inr.inr.inr.inr.inl => exact decide_eq_true ht
    all_goals rfl
  obtain ⟨t, he, hframe, -, hH⟩ := exec_midBlock hmid s
  have hkept {α : Type} (field : State → α) := congrArg field hframe
  exact ⟨t, he, hkept _, hkept _, hkept _, hkept _, hkept _, hkept _, hkept _, hkept _,
    ⟨hkept _, hkept _, hkept _, hkept _⟩, hH⟩

/-! ### All that a micro-operation can do -/

/-- What EMIT leaves (43_compressor.md R148). -/
def State.emitted (s : State) : State := { s.forget.goTo .idle with DIGEST := some s.hashBytes, STATUS := .done }

theorem exec_emit (s : State) : exec .emit s = .next s.emitted := rfl

@[simp] theorem State.emitted_STATUS (s : State) : s.emitted.STATUS = .done := rfl
@[simp] theorem State.emitted_DIGEST (s : State) : s.emitted.DIGEST = some s.hashBytes := rfl
@[simp] theorem State.emitted_OP (s : State) : s.emitted.OP = 0 := rfl
@[simp] theorem State.emitted_TCTR (s : State) : s.emitted.TCTR = 0 := rfl
@[simp] theorem State.emitted_H (s : State) : s.emitted.H = s.H := rfl
@[simp] theorem State.emitted_FAULT_CODE (s : State) : s.emitted.FAULT_CODE = s.FAULT_CODE := rfl
@[simp] theorem State.emitted_ABORT_PENDING (s : State) : s.emitted.ABORT_PENDING = s.ABORT_PENDING := rfl

/-- Nothing but the padder's registers, I and the model's own counter differs: what PAD and NEXT write before the dispatch. -/
def PaddingFrame (s t : State) : Prop :=
  t =
    { s with
      L := t.L, PADBITS := t.PADBITS, TLEN := t.TLEN, T := t.T, TOTAL := t.TOTAL, I := t.I, draw := t.draw }

/-- R164 to R174: IDLE rests, an operation of a block goes on to the next, PAD and NEXT dispatch, EMIT ends. -/
theorem exec_micro_cases {i : Instr} {s t : State} (hf : i.format = .u) (h : exec i s = .next t) :
    (i = .idle ∧ t = s) ∨
      (midBlock i = true ∧ BlockFrame s t ∧ Names t (blockSucc i) ∧ (i ≠ .fold → t.H = s.H)) ∨
      ((i = .pad ∨ i = .next) ∧ ∃ u k, PaddingFrame s u ∧ t = u.dispatch k) ∨ (i = .emit ∧ t = s.emitted) := by
  by_cases hmid : midBlock i = true
  · obtain ⟨u, he, hu⟩ := exec_midBlock hmid s
    cases he.symm.trans h
    exact .inr (.inl ⟨hmid, hu⟩)
  cases i
  case idle => cases h; exact .inl ⟨rfl, rfl⟩
  case pad =>
    cases (exec_pad s).symm.trans h
    exact .inr (.inr (.inl ⟨.inl rfl, s.padWrites s.readLEN, 0, rfl, rfl⟩))
  case next =>
    cases h
    exact .inr (.inr (.inl ⟨.inr rfl, s.advance, s.advance.readI, rfl, rfl⟩))
  case emit => cases (exec_emit s).symm.trans h; exact .inr (.inr (.inr ⟨rfl, rfl⟩))
  case expand x =>
    have hx : x.toNat < 16 := Nat.not_le.mp fun hle => hmid (decide_eq_true hle)
    cases (if_pos hx : exec (.expand x) s = _).symm.trans h
  case blkMsg | blkTail | blkMerge | loadw | initv | round | fold => exact absurd rfl hmid
  all_goals cases hf

theorem exec_micro_completes {i : Instr} (hf : i.format = .u) (hw : i.wellFormed = true) (s : State) :
    ∃ t, exec i s = .next t := by
  by_cases hmid : midBlock i = true
  · obtain ⟨t, he, -⟩ := exec_midBlock hmid s
    exact ⟨t, he⟩
  cases i
  case idle | pad | next | emit => exact ⟨_, rfl⟩
  case expand => exact absurd hw hmid
  case blkMsg | blkTail | blkMerge | loadw | initv | round | fold => exact absurd rfl hmid
  all_goals cases hf

/-- Settles O8: by the operation's format; EXPAND alone can be ill formed, and is then stuck by name. -/
theorem wellFormedOperationAlwaysCompletes : Obligations.WellFormedOperationAlwaysCompletes := by
  intro i s
  constructor
  · intro hw
    cases hf : i.format
    case c => exact exec_command_completes i s hf
    case u => exact exec_micro_completes hf hw s
    case f =>
      obtain ⟨v, he⟩ := exec_function i s hf
      exact ⟨_, he⟩
  · intro hw
    cases i
    case expand x => exact ⟨_, x, if_pos (Nat.not_le.mp (of_decide_eq_false hw))⟩
    all_goals cases hw

/-- H loses its value where the dispatch step ends the computation, and keeps it otherwise. -/
theorem State.dispatch_H {s : State} {k : Nat}
    (h : (s.dispatch k).STATUS = .busy ∨ (s.dispatch k).STATUS = .done) : (s.dispatch k).H = s.H := by
  obtain ⟨-, hd⟩ | ⟨-, -, hd⟩ | ⟨-, -, -, hd⟩ | ⟨-, -, hd⟩ := s.dispatch_cases k <;> rw [hd] at h ⊢
  · simp at h
  · simp
  · simp at h
  · simp

/-- Settles O35: a command other than START and a primitive change no register; of the micro-operations FOLD alone writes H. -/
theorem onlyStartAndFoldWriteHashState : Obligations.OnlyStartAndFoldWriteHashState := by
  intro i s t h hstart hfold hstatus
  cases hf : i.format
  case c =>
    cases i
    case cmdNone | cmdReserved => cases h; rfl
    case abort => cases h; split <;> rfl
    case start => exact absurd rfl hstart
    all_goals cases hf
  case f =>
    obtain ⟨v, he⟩ := exec_function i s hf
    cases he.symm.trans h
    rfl
  case u =>
    obtain ⟨-, rfl⟩ | ⟨-, -, -, hH⟩ | ⟨-, u, k, hframe, rfl⟩ | ⟨-, rfl⟩ := exec_micro_cases hf h
    · rfl
    · exact hH hfold
    · have hu : u.H = s.H := by rw [hframe]
      exact (State.dispatch_H hstatus).trans hu
    · rfl

/-- Settles O23: IDLE's meaning is the state itself. -/
theorem idleChangesNothing : Obligations.IdleChangesNothing := fun _ => rfl

/-! ### A step of the core -/

/-- R164: a core that is not BUSY rests. -/
theorem step_of_rest {s : State} (h : Undisturbed s) (hb : s.STATUS ≠ .busy) : step s = .next s := by
  have hc : s.CMD = none := h
  have hfetch : s.fetch = (.u, encode .idle) := by simp [State.fetch, hc, hb]
  have hidle : decode .u (encode .idle) = .ok .idle := rfl
  simp only [step, hfetch, hidle, State.taken_of_none hc, exec, execIdle]

/-- R88: a BUSY core has no step at a pair that names nothing. -/
theorem step_of_reject {s : State} {r : Reject} (h : Undisturbed s) (hb : s.STATUS = .busy)
    (hd : decodeU s.OP s.TCTR = .reject r) : step s = .fault (rejectFault r s) := by
  have hc : s.CMD = none := h
  have hfetch : s.fetch = (.u, microWord s.OP s.TCTR) := by simp [State.fetch, hc, hb]
  simp only [step, hfetch, decode_microWord, hd]

/-- Settles O5: the three sources of the next operation. -/
theorem stepRunsDecodedOperation : Obligations.StepRunsDecodedOperation :=
  fun _ => ⟨fun _ hc => step_of_command hc, fun _ => step_of_busy, step_of_rest⟩

/-- The reserved pairs (30_encoding.md R85, R88). -/
def ReservedPair (op : BitVec 4) (t : BitVec 6) : Prop :=
  12 ≤ op.toNat ∨ (op.toNat = 5 ∧ 16 ≤ t.toNat) ∨ (op.toNat = 6 ∧ t.toNat < 16) ∨
    (op.toNat ≠ 5 ∧ op.toNat ≠ 6 ∧ op.toNat ≠ 8 ∧ t.toNat ≠ 0)

/-- R88, R85: a pair is refused, by its name, or decodes, as it is reserved or not. -/
theorem decodeU_cases (op : BitVec 4) (t : BitVec 6) :
    (ReservedPair op t ∧ ∃ r, decodeU op t = .reject r ∧ ∀ s, rejectFault r s = .reservedPc op t) ∨
      (¬ReservedPair op t ∧ ∃ i, decodeU op t = .ok i) := by
  have hlt := op.isLt
  simp only [decodeU, decodePlain, ReservedPair]
  split
  case h_9 => exact .inr ⟨by omega, _, rfl⟩
  case h_13 =>
    simp only [imp_false] at *
    exact .inl ⟨by omega, _, rfl, fun _ => rfl⟩
  all_goals
    split
    · exact .inr ⟨by omega, _, rfl⟩
    · exact .inl ⟨by omega, _, rfl, fun _ => rfl⟩

/-- Settles O3: a reserved pair is refused with its name, any other decodes to an operation that completes. -/
theorem reservedPcIsStuck : Obligations.ReservedPcIsStuck := by
  intro s
  obtain ⟨hres, r, hd, hfault⟩ | ⟨hfree, i, hd⟩ := decodeU_cases s.OP s.TCTR
  · exact ⟨fun _ hb hu => (step_of_reject hu hb hd).trans (congrArg _ (hfault s)), fun h => absurd hres h⟩
  · refine ⟨fun h => absurd h hfree, fun _ hb hu => ?_⟩
    obtain ⟨hf, -, -, hw⟩ := decodeU_sound hd
    rw [step_of_busy hu hb hd]
    exact exec_micro_completes hf hw s

/-- Settles O11: the two branches of ABORT, and EMIT, which leaves ABORT_PENDING. -/
theorem abortIsRecordedWhileBusy : Obligations.AbortIsRecordedWhileBusy :=
  fun s => ⟨fun hb => congrArg _ (if_pos hb), fun hb => congrArg _ (if_neg hb), s.emitted, exec_emit s, rfl, rfl⟩

end Sys2Proof.Machine
end

section
/-! PROOFS. The host's side of the machine (44_control.md R160, R175): commands presented and taken, words placed, events and what
they keep, the message memory. -/

namespace Sys2Proof.Machine

/-! ### Commands -/

/-- R160 to R163: outside BUSY every command but START changes nothing. -/
theorem exec_command_of_rest {c : BitVec 2} {s : State} (hc : c ≠ 1) (hb : s.STATUS ≠ .busy) :
    exec (decodeC c) s = .next s := by
  have hcode : c = 0 ∨ c = 2 ∨ c = 3 := by revert hc; revert c; decide
  obtain rfl | rfl | rfl := hcode
  · exact exec_cmdNone s
  · exact congrArg Host.Outcome.next (if_neg hb)
  · exact exec_cmdReserved s

/-- Settles O30: a core in FAULT rests, and a command other than START leaves it as it is. -/
theorem faultPersistsUntilStart : Obligations.FaultPersistsUntilStart := by
  intro s hfault hstart
  have hb : s.STATUS ≠ .busy := by simp [hfault]
  cases hc : s.CMD with
  | none => exact ⟨s, step_of_rest hc hb, hfault, rfl, rfl⟩
  | some c =>
    have hne : c ≠ 1 := fun h => hstart (h ▸ hc)
    exact ⟨s.taken, (step_of_command hc).trans (exec_command_of_rest hne hb), hfault, rfl, rfl⟩

/-- R29: a waiting command is executed by the next step, and none waits after it. -/
theorem step_takes_command {s : State} {c : BitVec 2} (hc : s.CMD = some c) :
    ∃ u, step s = .next u ∧ exec (decodeC c) s.taken = .next u ∧ u.CMD = none := by
  obtain ⟨u, hu⟩ := exec_command_completes (decodeC c) s.taken (decodeC_format c)
  obtain ⟨hcmd, -⟩ := exec_command_hostSideKept (decodeC_format c) hu
  exact ⟨u, (step_of_command hc).trans hu, hu, hcmd⟩

/-- Presenting a command to a core on whose port none waits. -/
theorem Event.apply_command_of_none {s : State} (c : BitVec 2) (hc : s.CMD = none) :
    Event.apply (.command c) s = .next { s with CMD := some c } := by
  rw [Event.apply, State.present, hc]

/-- Presenting a command while one waits: the step that takes that one comes first. -/
theorem Event.apply_command_of_some {s u : State} (c : BitVec 2) {d : BitVec 2} (hd : s.CMD = some d)
    (hu : step s = .next u) : Event.apply (.command c) s = .next { u with CMD := some c } := by
  rw [Event.apply, State.present, hd, hu]

theorem runTrace_cons {e : Event} {es : List Event} {s t : State} (h : e.apply s = .next t) :
    runTrace (e :: es) s = runTrace es t := by
  rw [runTrace, h]

/-- Settles O12, by induction on the commands presented: each finds the port empty, or has the one that waits taken first. -/
theorem everyPresentedCommandIsTakenOnce : Obligations.EveryPresentedCommandIsTakenOnce := by
  intro s cs
  induction cs generalizing s with
  | nil =>
    intro hne
    cases hc : s.CMD with
    | none => simp [hc] at hne
    | some c =>
      obtain ⟨u, hstep, hexec, hcmd⟩ := step_takes_command hc
      exact ⟨u, runTrace_cons hstep, ⟨u, hexec, rfl⟩, hcmd⟩
  | cons c cs ih =>
    intro _
    cases hc : s.CMD with
    | none =>
      obtain ⟨t, hrun, htakes, hcmd⟩ := ih { s with CMD := some c } (by simp)
      exact ⟨t, (runTrace_cons (Event.apply_command_of_none c hc)).trans hrun, htakes, hcmd⟩
    | some d =>
      obtain ⟨u, hstep, hexec, hnone⟩ := step_takes_command hc
      obtain ⟨t, hrun, htakes, hcmd⟩ := ih { u with CMD := some c } (by simp)
      have hu : ({ u with CMD := none } : State) = u := State.taken_of_none hnone
      refine ⟨t, (runTrace_cons (Event.apply_command_of_some c hc hstep)).trans hrun, ⟨u, hexec, ?_⟩, hcmd⟩
      rw [← hu]
      exact htakes

/-! ### Words placed where a step fetches -/

/-- A command word placed on CMD is what the next step takes. -/
theorem step_place_c {s : State} {w : Nat} {i : Instr} (h : decode .c w = .ok i) :
    step (s.place .c w) = exec i (s.place .c w).taken := by
  obtain ⟨rfl, -⟩ := decode_c_ok h
  exact step_of_command rfl

/-- A micro-operation word placed in `pc` is what the next step performs; IDLE is what a core at rest performs. -/
theorem step_place_u {s : State} {w : Nat} {i : Instr} (h : decode .u w = .ok i) :
    step (s.place .u w) = exec i (s.place .u w).taken := by
  obtain ⟨hd, -⟩ := decode_u_ok h
  have hu : Undisturbed (s.place .u w) := rfl
  rw [State.taken_of_none hu]
  by_cases hb : (s.place .u w).STATUS = .busy
  · exact step_of_busy hu hb hd
  · have hidle : w = encode .idle := by
      by_contra hne
      exact hb (if_neg hne)
    subst hidle
    cases h
    exact step_of_rest hu hb

/-- Settles O6: the word's format says where it is placed, and decoding says what the next step fetches there. -/
theorem placedTableWordRunsNext : Obligations.PlacedTableWordRunsNext := by
  intro s nbits w i h
  simp only [decodeTableWord] at h
  simp only [State.withFetchWord, State.placeTableWord]
  cases hfmt : tableFormat nbits w with
  | none => simp [hfmt] at h
  | some fmt =>
    have hd : decode fmt w = .ok i := by
      simp only [hfmt] at h
      split at h <;> cases h
      assumption
    obtain ⟨rfl, -, -⟩ := encodeOfDecodeIsIdentity fmt w i hd
    cases hf : i.format <;> rw [hf] at hd
    case c => exact ⟨fun _ => step_place_c hd, nofun⟩
    case u => exact ⟨fun _ => step_place_u hd, nofun⟩
    case f => exact ⟨fun h => absurd rfl h, fun _ => rfl⟩

/-! ### Events -/

/-- What `fillMsg` can do, if it answers a next state. -/
theorem State.fillMsg_next {s t : State} {bytes : List Byte} (h : s.fillMsg bytes = .next t) :
    bytes.length ≤ 2 ^ 64 ∧ t = { s with MSG := Memory.writeList s.MSG 0 bytes } := by
  simp only [State.fillMsg] at h
  split at h
  · cases h
  · split at h
    · cases h
    · cases h
      exact ⟨by omega, rfl⟩

/-- R160, R175: what holds through the reset signal, a fill of the memory, a change of MSG_LEN or CMD and a step of the core holds
through every event. -/
theorem Event.apply_keeps {P : State → Prop} (hreset : ∀ s, P s → P s.assertReset)
    (hfill : ∀ s (bytes : List Byte), bytes.length ≤ 2 ^ 64 → P s → P { s with MSG := Memory.writeList s.MSG 0 bytes })
    (hlen : ∀ s n, P s → P { s with MSG_LEN := n }) (hcmd : ∀ s c, P s → P { s with CMD := c })
    (hstep : ∀ s t, P s → step s = .next t → P t) {e : Event} {s t : State} (hs : P s) (h : e.apply s = .next t) :
    P t := by
  cases e with
  | reset => cases h; exact hreset s hs
  | fillMsg bytes =>
    obtain ⟨hle, rfl⟩ := State.fillMsg_next h
    exact hfill s bytes hle hs
  | msgLen n => cases h; exact hlen s n hs
  | command c =>
    obtain ⟨u, hu, rfl⟩ := State.present_cases h
    refine hcmd u _ ?_
    obtain ⟨rfl, -⟩ | hu := hu
    · exact hs
    · exact hstep s u hs hu
  | core => exact hstep s t hs h

/-- Settles O7: commands are of format C and micro-operations of format U, and no event reaches the function units. -/
theorem primitivesAreNeverIssuedAsSteps : Obligations.PrimitivesAreNeverIssuedAsSteps := by
  intro s c op x
  refine ⟨?_, by simp [decodeC_format], fun i h => by simp [(decodeU_sound h).1], fun e t h => ?_⟩
  · cases hc : s.CMD <;> simp [State.fetch, hc]
  · refine Event.apply_keeps (P := fun u => u.fu = s.fu) (fun _ h => h) (fun _ _ _ h => h) (fun _ _ h => h)
      (fun _ _ h => h) (fun u v hu hv => ?_) rfl h
    obtain ⟨-, -, -, hfu⟩ := step_hostSideKept hv
    exact hfu.trans hu

/-- Settles O42: a fill keeps the form within the 64-bit offsets, and nothing else writes the memory. -/
theorem eventKeepsMemoryForm : Obligations.EventKeepsMemoryForm := by
  intro e s t hs h
  refine Event.apply_keeps (P := fun u => Memory.wf u.MSG = true) (fun _ h => h)
    (fun u bytes hle hu => Memory.writeList_wf bytes _ 0 hu (by omega)) (fun _ _ h => h) (fun _ _ h => h)
    (fun u v hu hv => ?_) hs h
  obtain ⟨hmsg, -⟩ := stepNeverWritesMessage u v hv
  rw [hmsg]
  exact hu

/-- A core that is not BUSY accepts every fill within the 64-bit offsets. -/
theorem State.fillMsg_of_rest {s : State} {bytes : List Byte} (hb : s.STATUS ≠ .busy) (hle : bytes.length ≤ 2 ^ 64) :
    s.fillMsg bytes = .next { s with MSG := Memory.writeList s.MSG 0 bytes } := by
  rw [State.fillMsg, if_neg (by omega), if_neg (fun h => hb h.1)]

/-- Settles O43: what `Memory.writeList` wrote from offset 0 on is read back, and every other byte is as before. -/
theorem filledMessageReadsBack : Obligations.FilledMessageReadsBack := by
  intro s m hb hwf hle
  have hread := Memory.read_writeList m s.MSG 0 hwf (by omega)
  refine ⟨_, State.fillMsg_of_rest hb hle, fun j hj => ?_, fun j hj => ?_, rfl⟩
  · rw [hread, if_pos (by omega), Nat.sub_zero]
  · rw [hread, if_neg (by omega)]

/-! ### Reset -/

/-- Settles O32: whatever the command did, it left the host's side alone, the only part of a state that reset keeps. -/
theorem resetAbsorbsWaitingCommand : Obligations.ResetAbsorbsWaitingCommand := by
  intro s c hc
  obtain ⟨u, hstep, -, -⟩ := step_takes_command hc
  obtain ⟨-, hlen, hmsg, hfu⟩ := step_hostSideKept hstep
  refine ⟨s.assertReset, u, u.assertReset, Event.apply_reset s, rfl, hstep, Event.apply_reset u, ?_⟩
  simp only [State.assertReset, hlen, hmsg, hfu, State.taken_MSG_LEN, State.taken_MSG, State.taken_fu]

/-- Settles O33: the fields of the reset state. -/
theorem resetStateHoldsResetValues : Obligations.ResetStateHoldsResetValues :=
  ⟨rfl, rfl, rfl, rfl, rfl, rfl, rfl, State.reset_dataForgotten, rfl⟩

end Sys2Proof.Machine
end

section
/-! PROOFS. The ports and the sequencer stay consistent (10_state.md R30 to R32). -/

namespace Sys2Proof.Machine

/-- The ports the host reads and the recorded ABORT are as they were. -/
structure PortsKept (s t : State) : Prop where
  status : t.STATUS = s.STATUS
  faultCode : t.FAULT_CODE = s.FAULT_CODE
  digest : t.DIGEST = s.DIGEST
  pending : t.ABORT_PENDING = s.ABORT_PENDING

theorem PortsKept.trans {s t u : State} (h : PortsKept s t) (h' : PortsKept t u) : PortsKept s u :=
  ⟨h'.status.trans h.status, h'.faultCode.trans h.faultCode, h'.digest.trans h.digest, h'.pending.trans h.pending⟩

theorem BlockFrame.portsKept {s t : State} (h : BlockFrame s t) : PortsKept s t := by
  rw [h]
  exact ⟨rfl, rfl, rfl, rfl⟩

theorem PaddingFrame.portsKept {s t : State} (h : PaddingFrame s t) : PortsKept s t := by
  rw [h]
  exact ⟨rfl, rfl, rfl, rfl⟩

/-- A core at rest in IDLE, as reset and abandonment leave it. -/
theorem ControlInv.of_idle {s : State} (hstatus : s.STATUS = .idle) (hfault : s.FAULT_CODE = .none)
    (hdigest : s.DIGEST = none) (hop : s.OP = 0) (ht : s.TCTR = 0) (ha : s.ABORT_PENDING = false) : ControlInv s where
  busyPc := by simp [hstatus]
  restPc := fun _ => ⟨hop, ht⟩
  faultCode := by simp [hstatus, hfault]
  noMalformed := by simp [hfault]
  digest := by simp [hstatus, hdigest]
  pending := by simp [ha]

theorem State.abandon_controlInv (s : State) : ControlInv s.abandon := .of_idle rfl rfl rfl rfl rfl rfl

/-- A fault the core can raise at run time (60_exceptions.md R201, R204) leaves its code beside FAULT. -/
theorem State.raise_controlInv (s : State) {c : FaultCode} (hnone : c ≠ .none) (hrun : c ≠ .malformedConstants) :
    ControlInv (s.raise c) where
  busyPc := by simp
  restPc := by simp
  faultCode := by simp [hnone]
  noMalformed := hrun
  digest := by simp
  pending := by simp

theorem State.begin_controlInv (s : State) : ControlInv s.begin where
  busyPc := fun _ => ⟨.pad, rfl, nofun⟩
  restPc := by simp
  faultCode := by simp
  noMalformed := by simp
  digest := by simp
  pending := by simp

section
variable {s t : State} (h : ControlInv s)
include h

theorem ControlInv.taken : ControlInv s.taken :=
  ⟨h.busyPc, h.restPc, h.faultCode, h.noMalformed, h.digest, h.pending⟩

/-- A BUSY core whose `pc` moves on to another micro-operation. -/
theorem ControlInv.goes_on {i : Instr} (hb : s.STATUS = .busy) (hp : PortsKept s t) (hn : Names t i) (hi : IsActive i) :
    ControlInv t := by
  obtain ⟨hstatus, hfault, hdigest, habort⟩ := hp
  refine ⟨fun _ => ⟨i, hn.decodes hi, hi.notIdle⟩, fun hne => absurd (hstatus.trans hb) hne, ?_, ?_, ?_, ?_⟩
  · rw [hfault, hstatus]; exact h.faultCode
  · rw [hfault]; exact h.noMalformed
  · rw [hdigest, hstatus]; exact h.digest
  · rw [habort, hstatus]; exact h.pending

/-- R162: an ABORT recorded while BUSY. -/
theorem ControlInv.aborting (hb : s.STATUS = .busy) : ControlInv { s with ABORT_PENDING := true } :=
  ⟨h.busyPc, h.restPc, h.faultCode, h.noMalformed, h.digest, fun _ => .inl hb⟩

theorem ControlInv.emitted (hb : s.STATUS = .busy) : ControlInv s.emitted where
  busyPc := by simp
  restPc := by simp
  faultCode := by simp [h.faultCode, hb]
  noMalformed := h.noMalformed
  digest := by simp
  pending := by simp

/-- R171: whichever way the dispatch step of a BUSY core ends. -/
theorem ControlInv.dispatch (hb : s.STATUS = .busy) (k : Nat) : ControlInv (s.dispatch k) := by
  obtain ⟨-, hd⟩ | ⟨-, -, hd⟩ | ⟨-, -, -, hd⟩ | ⟨-, -, hd⟩ := s.dispatch_cases k <;> rw [hd]
  · exact s.abandon_controlInv
  · exact h.goes_on (i := .emit) hb ⟨rfl, rfl, rfl, rfl⟩ ⟨rfl, rfl⟩ ⟨rfl, rfl, nofun⟩
  · exact s.raise_controlInv nofun nofun
  · exact h.goes_on hb ⟨rfl, rfl, rfl, rfl⟩ ⟨rfl, rfl⟩ (midBlock_active (selectBlock_midBlock k s.readLEN))

theorem ControlInv.after_command {i : Instr} (hf : i.format = .c) (he : exec i s = .next t) : ControlInv t := by
  obtain hs | ⟨hb, hs⟩ | ⟨-, hs⟩ | ⟨-, -, hs⟩ := exec_command i s hf <;> cases hs.symm.trans he
  · exact h
  · exact h.aborting hb
  · exact s.raise_controlInv nofun nofun
  · exact s.begin_controlInv

theorem ControlInv.after_micro {i : Instr} (hf : i.format = .u) (hb : s.STATUS = .busy) (he : exec i s = .next t) :
    ControlInv t := by
  obtain ⟨-, rfl⟩ | ⟨hmid, hframe, hn, -⟩ | ⟨-, u, k, hframe, rfl⟩ | ⟨-, rfl⟩ := exec_micro_cases hf he
  · exact h
  · exact h.goes_on hb hframe.portsKept hn (blockSucc_active hmid)
  · have hu : ControlInv u := by
      rw [hframe]
      exact ⟨h.busyPc, h.restPc, h.faultCode, h.noMalformed, h.digest, h.pending⟩
    exact hu.dispatch (hframe.portsKept.status.trans hb) k
  · exact h.emitted hb

end

/-- Settles O37: by what the step executed, a command, IDLE, or the micro-operation of a BUSY core. -/
theorem stepKeepsControlConsistent : Obligations.StepKeepsControlConsistent := by
  intro s t h hstep
  obtain ⟨i, he, hf | rfl | ⟨-, hb, hd⟩⟩ := step_cases hstep
  · exact h.taken.after_command hf he
  · cases he
    exact h.taken
  · exact h.taken.after_micro (decodeU_sound hd).1 hb he

end Sys2Proof.Machine
end

section
/-! PROOFS. What PAD leaves (42_padder.md R120 to R124): the padder's registers of an admitted length, and the tail's length bytes. -/

namespace Sys2Proof.Machine

theorem Admitted.LEN_eq {s : State} {n : U64} (h : Admitted s n) : s.LEN = some n := h.1

theorem Admitted.length_lt {s : State} {n : U64} (h : Admitted s n) : n.toNat < 2 ^ 61 := h.2.1

theorem Admitted.firstHeld_H {s : State} {n : U64} (h : Admitted s n) : FirstHeld s.H 8 := h.2.2

theorem Padded.admitted {s : State} {n : U64} (h : Padded s n) : Admitted s n := h.1

/-- R120: PAD's writes for an admitted length. -/
theorem padded_padWrites {s : State} {n : U64} (h : Admitted s n) : Padded (s.padWrites n.toNat) n := by
  rw [s.padWrites_of_lt h.length_lt]
  refine ⟨h, rfl, rfl, rfl, rfl, fun j hj => ?_⟩
  have hbound := (tailLen_bounds n.toNat).2
  rw [padTail_get? _ _ _ (by omega), if_pos hj]

/-- R73: eight big-endian bytes are the number. -/
theorem sum_byteBe64 {v : Nat} (h : v < 2 ^ 64) :
    (∑ k : Fin 8, (byteBe64 (BitVec.ofNat 64 v) k.val).toNat * 256 ^ (7 - k.val)) = v := by
  simp only [byteBe64_ofNat h, BitVec.toNat_ofNat, Fin.sum_univ_eight, Nat.shiftRight_eq_div_pow]
  norm_num
  omega

/-- The last eight bytes of the tail (42_padder.md R120). -/
theorem tailByte_length (len : Nat) (l : U64) (k : Nat) : tailByte len l (tailLen len - 8 + k) = byteBe64 l k := by
  have hbound := (tailLen_bounds len).1
  rw [tailByte, if_neg (by omega), if_neg (by omega), Nat.add_sub_cancel_left]

/-- Settles O14: TOTAL and TLEN by the residue of the length, and the length bytes of the tail. -/
theorem paddedStreamIsWholeBlocks : Obligations.PaddedStreamIsWholeBlocks := by
  intro s n hn hlt ha
  obtain ⟨hmod, hwindow⟩ := total_mod n.toNat
  obtain ⟨hge, hle⟩ := tailLen_bounds n.toNat
  have htotal : (BitVec.ofNat 64 (n.toNat + tailLen n.toNat)).toNat = n.toNat + tailLen n.toNat :=
    Nat.mod_eq_of_lt (by omega)
  have htail : (BitVec.ofNat 7 (tailLen n.toNat)).toNat = tailLen n.toNat := Nat.mod_eq_of_lt (by omega)
  refine ⟨_, BitVec.ofNat 7 (tailLen n.toNat), BitVec.ofNat 64 (n.toNat + tailLen n.toNat),
    exec_pad_of_not_aborted hn hlt ha, rfl, ?_, ?_⟩
  · rw [State.goTo_TOTAL, s.padWrites_TOTAL_of_lt (by omega)]
  rw [htotal, htail]
  refine ⟨hmod, hwindow, rfl, hge, hle, tailLen_eq n.toNat, fun k => byteBe64 (bitLength n.toNat) k.val, fun k => ?_,
    sum_byteBe64 (by omega)⟩
  rw [State.goTo_T, s.padWrites_T_of_lt (by omega), padTail_get? _ _ _ (by omega), if_pos (by omega), tailByte_length]

end Sys2Proof.Machine
end

section
/-! PROOFS. The invariant of a computation (10_state.md R39, 60_exceptions.md R213): what the next micro-operation reads was written
by this computation. -/

namespace Sys2Proof.Machine

/-! ### Registers that hold values -/

/-- A register array all of whose elements hold a value is a vector of values. -/
theorem FirstHeld.exists_map {α : Type} {n : Nat} {r : Vector (Option α) n} (h : FirstHeld r n) :
    ∃ v : Vector α n, r = v.map some := by
  choose f hf using fun i : Fin n => h i.val i.isLt
  refine ⟨Vector.ofFn f, Vector.ext fun i hi => ?_⟩
  have hi' := hf ⟨i, hi⟩
  rw [Vector.getElem?_eq_getElem hi] at hi'
  simpa using hi'

theorem firstHeld_map {α : Type} {n : Nat} (v : Vector α n) : FirstHeld (v.map some) n :=
  fun i hi => ⟨v[i], by simp [hi]⟩

theorem firstHeld_zero {α : Type} {n : Nat} (r : Vector (Option α) n) : FirstHeld r 0 := nofun

/-! ### The operations of a block -/

/-- The padded stream's registers do not change within a block. -/
theorem Padded.of_blockFrame {s t : State} {n : U64} (h : Padded s n) (hframe : BlockFrame s t) (hH : FirstHeld t.H 8) :
    Padded t n := by
  obtain ⟨⟨hlen, hlt, -⟩, hregs⟩ := h
  rw [hframe]
  exact ⟨⟨hlen, hlt, hH⟩, hregs⟩

theorem Ready.inBlock {s : State} {n w : U64} {i : Instr} (hi : midBlock i = true) (h : Ready s n w i) :
    Padded s n ∧ InWindow n w := by
  cases i
  case blkMsg | blkTail | blkMerge | loadw | expand | initv | round | fold => exact ⟨h.1, h.2.1⟩
  all_goals cases hi

/-- R21: H still holds a hash state after an operation of a block. -/
theorem exec_midBlock_firstHeld_H {i : Instr} {s t : State} {n w : U64} (hi : midBlock i = true) (h : Ready s n w i)
    (he : exec i s = .next t) : FirstHeld t.H 8 := by
  obtain ⟨hpad, -⟩ := h.inBlock hi
  by_cases hfold : i = .fold
  · subst hfold
    obtain ⟨hash, hhash⟩ := hpad.admitted.firstHeld_H.exists_map
    obtain ⟨-, -, v, hv⟩ := h
    cases (exec_fold_of_held hv hhash).symm.trans he
    exact firstHeld_map _
  · obtain ⟨u, hu, -, -, hH⟩ := exec_midBlock hi s
    cases hu.symm.trans he
    rw [hH hfold]
    exact hpad.admitted.firstHeld_H

/-- R141 to R146: an operation of a block writes what the next one reads. -/
theorem Ready.after_midBlock {s t : State} {n w : U64} {i : Instr} (hi : midBlock i = true) (h : Ready s n w i)
    (he : exec i s = .next t) : Ready t n w (blockSucc i) := by
  obtain ⟨hpad, hwin⟩ := h.inBlock hi
  have hpad' : Padded t n := by
    obtain ⟨u, hu, hframe, -⟩ := exec_midBlock hi s
    cases hu.symm.trans he
    exact hpad.of_blockFrame hframe (exec_midBlock_firstHeld_H hi h he)
  cases i
  case blkMsg | blkTail | blkMerge =>
    cases he
    exact ⟨hpad', hwin, firstHeld_fullBlock _, firstHeld_zero _⟩
  case loadw x =>
    obtain ⟨-, -, hB, hW⟩ := h
    cases he
    have hW' := hW.set (be32 (s.readB (4 * x.toNat)) (s.readB (4 * x.toNat + 1)) (s.readB (4 * x.toNat + 2))
      (s.readB (4 * x.toNat + 3))) (by omega)
    rw [blockSucc]
    split
    case isTrue hlt => exact ⟨hpad', hwin, hB, toNat_succ4 x hlt ▸ hW'⟩
    case isFalse hge =>
      have hlast : x.toNat + 1 = 16 := by omega
      rw [hlast] at hW'
      exact ⟨hpad', hwin, hW'⟩
  case expand x =>
    obtain ⟨-, -, hW⟩ := h
    have hx : ¬x.toNat < 16 := Nat.not_lt.mpr (of_decide_eq_true hi)
    cases (if_neg hx : exec (.expand x) s = _).symm.trans he
    have hW' := hW.set (expandWord (s.readW (x.toNat - 2)) (s.readW (x.toNat - 7)) (s.readW (x.toNat - 15))
      (s.readW (x.toNat - 16))) x.isLt
    rw [blockSucc]
    split
    case isTrue hlt => exact ⟨hpad', hwin, toNat_succ6 x hlt ▸ hW'⟩
    case isFalse hge => exact ⟨hpad', hwin, hW'.mono (by omega)⟩
  case initv =>
    obtain ⟨-, -, hW⟩ := h
    cases he
    exact ⟨hpad', hwin, hW, _, rfl⟩
  case round x =>
    obtain ⟨-, -, hW, -⟩ := h
    cases he
    rw [blockSucc]
    split
    · exact ⟨hpad', hwin, hW, _, rfl⟩
    · exact ⟨hpad', hwin, _, rfl⟩
  case fold => exact ⟨hpad', hwin⟩
  all_goals cases hi

/-! ### The dispatch step -/

/-- R171 for the padded stream of an admitted length: at a window's offset a whole window is left or none, so the dispatch raises
nothing (R213). -/
theorem Padded.dispatch_cases {s : State} {n : U64} (h : Padded s n) {k : Nat} (hmod : k % 64 = 0)
    (hle : k ≤ n.toNat + tailLen n.toNat) :
    (s.ABORT_PENDING = true ∧ s.dispatch k = s.abandon) ∨
      (s.ABORT_PENDING = false ∧ k = n.toNat + tailLen n.toNat ∧ s.dispatch k = s.goTo .emit) ∨
      (s.ABORT_PENDING = false ∧ k + 64 ≤ n.toNat + tailLen n.toNat ∧ s.dispatch k = s.goTo (selectBlock k n.toNat)) := by
  obtain ⟨⟨hlen, hlt, -⟩, -, -, -, htotal, -⟩ := h
  have hfit := total_lt n.toNat hlt
  have hwhole := (total_mod n.toNat).1
  have hread : s.readTOTAL = n.toNat + tailLen n.toNat := by
    rw [State.readTOTAL_of htotal, BitVec.toNat_ofNat, Nat.mod_eq_of_lt (by omega)]
  cases ha : s.ABORT_PENDING
  case true => exact .inl ⟨rfl, State.dispatch_of_pending ha k⟩
  case false =>
    by_cases hend : k = n.toNat + tailLen n.toNat
    · exact .inr (.inl ⟨rfl, hend, State.dispatch_of_eq_total ha (hend.trans hread.symm)⟩)
    · have hwin : k + 64 ≤ n.toNat + tailLen n.toNat := by omega
      rw [State.dispatch_of_window ha (hread ▸ hwin), State.readLEN_of hlen]
      exact .inr (.inr ⟨rfl, hwin, rfl⟩)

/-- R128: the selected operation is ready where a whole window is left. -/
theorem Padded.ready_selectBlock {s : State} {n w : U64} (h : Padded s n) (hw : InWindow n w) :
    Ready s n w (selectBlock w.toNat n.toNat) := by
  obtain ⟨-, hsel⟩ | ⟨-, hsel⟩ | ⟨-, -, hsel⟩ := selectBlock_cases w.toNat n.toNat <;> rw [hsel] <;> exact ⟨h, hw, hsel⟩

/-- A state in which the micro-operation `pc` names is ready. -/
def ReadyNext (s : State) (n w : U64) : Prop :=
  ∃ i, IsActive i ∧ Names s i ∧ s.LEN = some n ∧ s.I = some w ∧ Ready s n w i

theorem Padded.dispatch_ready {s : State} {n w : U64} (h : Padded s n) (hI : s.I = some w) (hmod : w.toNat % 64 = 0)
    (hle : w.toNat ≤ n.toNat + tailLen n.toNat) :
    (s.ABORT_PENDING = true ∧ s.dispatch w.toNat = s.abandon) ∨
      PortsKept s (s.dispatch w.toNat) ∧ ReadyNext (s.dispatch w.toNat) n w := by
  have hlen : s.LEN = some n := h.admitted.LEN_eq
  obtain ⟨ha, hd⟩ | ⟨-, hend, hd⟩ | ⟨-, hwin, hd⟩ := h.dispatch_cases hmod hle
  · exact .inl ⟨ha, hd⟩
  · rw [hd]
    exact .inr ⟨⟨rfl, rfl, rfl, rfl⟩, .emit, ⟨rfl, rfl, nofun⟩, ⟨rfl, rfl⟩, hlen, hI, h, hend⟩
  · rw [hd]
    exact .inr ⟨⟨rfl, rfl, rfl, rfl⟩, _, midBlock_active (selectBlock_midBlock _ _), ⟨rfl, rfl⟩, hlen, hI,
      Padded.ready_selectBlock (s := s.goTo _) h ⟨hmod, hwin⟩⟩

/-! ### Every micro-operation that is ready -/

/-- R147 for a window of the padded stream: the offset after it is a number of 64 bits. -/
theorem InWindow.toNat_add {n w : U64} (h : InWindow n w) (hlt : n.toNat < 2 ^ 61) :
    w.toNat + 64 < 2 ^ 64 ∧ (w + 64).toNat = w.toNat + 64 := by
  have hfit := total_lt n.toNat hlt
  obtain ⟨-, hle⟩ := h
  have hadd : (w + 64).toNat = (w.toNat + 64) % 2 ^ 64 := BitVec.toNat_add w 64
  omega

/-- R213: a micro-operation that is ready ends the computation in EMIT or, an ABORT pending, in the dispatch step, and else leaves
the next one ready; it raises nothing. -/
theorem exec_ready_cases {i : Instr} {s t : State} {n w : U64} (hi : IsActive i) (hI : s.I = some w)
    (h : Ready s n w i) (he : exec i s = .next t) :
    t = s.emitted ∨ (s.ABORT_PENDING = true ∧ ∃ u, t = State.abandon u) ∨ (PortsKept s t ∧ ∃ w', ReadyNext t n w') := by
  by_cases hmid : midBlock i = true
  · obtain ⟨u, hu, hframe, hn, -⟩ := exec_midBlock hmid s
    cases hu.symm.trans he
    obtain ⟨hpad, -⟩ := h.inBlock hmid
    have hlen : t.LEN = s.LEN := by rw [hframe]
    have hoff : t.I = s.I := by rw [hframe]
    exact .inr (.inr ⟨hframe.portsKept, w, _, blockSucc_active hmid, hn, hlen.trans hpad.admitted.LEN_eq, hoff.trans hI,
      h.after_midBlock hmid he⟩)
  obtain ⟨hf, hw, hidle⟩ := hi
  cases i
  case idle => exact absurd rfl hidle
  case pad =>
    obtain ⟨hadm, rfl⟩ := h
    cases (exec_pad s).symm.trans he
    rw [State.readLEN_of hadm.LEN_eq]
    have hframe : PaddingFrame s (s.padWrites n.toNat) := rfl
    obtain ⟨ha, hd⟩ | ⟨hports, hready⟩ := (padded_padWrites hadm).dispatch_ready hI rfl (Nat.zero_le _)
    · exact .inr (.inl ⟨ha, _, hd⟩)
    · exact .inr (.inr ⟨hframe.portsKept.trans hports, 0, hready⟩)
  case next =>
    obtain ⟨hpad, hwin⟩ := h
    obtain ⟨hfit, hnext⟩ := hwin.toNat_add hpad.admitted.length_lt
    obtain ⟨hmod, hle⟩ := hwin
    cases (exec_next_of_held hI hfit).symm.trans he
    have hI' : s.advance.I = some (w + 64) := by rw [State.advance_of_lt hI hfit]
    rw [← hnext]
    have hframe : PaddingFrame s s.advance := rfl
    obtain ⟨ha, hd⟩ | ⟨hports, hready⟩ := Padded.dispatch_ready (s := s.advance) hpad hI' (by omega) (by omega)
    · exact .inr (.inl ⟨ha, _, hd⟩)
    · exact .inr (.inr ⟨hframe.portsKept.trans hports, _, hready⟩)
  case emit =>
    cases (exec_emit s).symm.trans he
    exact .inl rfl
  case expand => exact absurd hw hmid
  case blkMsg | blkTail | blkMerge | loadw | initv | round | fold => exact absurd rfl hmid
  all_goals cases hf

/-! ### The invariant -/

/-- While BUSY, the next micro-operation is ready. -/
theorem Inv.readyNext {s : State} (h : Inv s) (hb : s.STATUS = .busy) : ∃ n w, ReadyNext s n w := by
  obtain ⟨i, hd, hidle⟩ := h.control.busyPc hb
  obtain ⟨n, w, j, hd', hlen, hoff, hr⟩ := h.ready hb
  cases hd.symm.trans hd'
  obtain ⟨hf, hop, ht, hw⟩ := decodeU_sound hd
  exact ⟨n, w, i, ⟨hf, hw, hidle⟩, ⟨hop.symm, ht.symm⟩, hlen, hoff, hr⟩

theorem Inv.of_readyNext {s : State} {n w : U64} (hc : ControlInv s) (h : ReadyNext s n w) : Inv s :=
  have ⟨i, hi, hn, hlen, hoff, hr⟩ := h
  ⟨hc, fun _ => ⟨n, w, i, hn.decodes hi, hlen, hoff, hr⟩⟩

/-- Outside BUSY the invariant is the control state's. -/
theorem Inv.of_rest {s : State} (hc : ControlInv s) (hb : s.STATUS ≠ .busy) : Inv s := ⟨hc, fun h => absurd h hb⟩

/-- The host's ports and memory are no part of it. -/
theorem Inv.hostSide {s : State} (h : Inv s) (c : Option (BitVec 2)) (n : U64) (m : Memory) :
    Inv { s with CMD := c, MSG_LEN := n, MSG := m } :=
  ⟨⟨h.control.busyPc, h.control.restPc, h.control.faultCode, h.control.noMalformed, h.control.digest, h.control.pending⟩,
    h.ready⟩

theorem Inv.taken {s : State} (h : Inv s) : Inv s.taken := h.hostSide none s.MSG_LEN s.MSG

/-- R161: what an accepted START leaves is ready for PAD. -/
theorem begin_readyNext {s : State} (h : s.MSG_LEN.toNat < 2 ^ 61) : ReadyNext s.begin s.MSG_LEN 0 :=
  ⟨.pad, ⟨rfl, rfl, nofun⟩, ⟨rfl, rfl⟩, rfl, rfl, ⟨rfl, h, firstHeld_HINIT⟩, rfl⟩

theorem Inv.after_command {i : Instr} {s t : State} (h : Inv s) (hf : i.format = .c) (he : exec i s = .next t) : Inv t := by
  have hc := h.control.after_command hf he
  obtain hs | ⟨-, hs⟩ | ⟨-, hs⟩ | ⟨-, hlt, hs⟩ := exec_command i s hf <;> cases hs.symm.trans he
  · exact h
  · exact ⟨hc, h.ready⟩
  · exact .of_rest hc nofun
  · exact .of_readyNext hc (begin_readyNext hlt)

theorem Inv.after_micro {i : Instr} {s t : State} (h : Inv s) (hb : s.STATUS = .busy) (hd : decodeU s.OP s.TCTR = .ok i)
    (he : exec i s = .next t) : Inv t := by
  obtain ⟨n, w, j, hj, hn, -, hoff, hr⟩ := h.readyNext hb
  cases (hn.decodes hj).symm.trans hd
  have hc := h.control.after_micro hj.micro hb he
  obtain rfl | ⟨-, u, rfl⟩ | ⟨-, w', hr'⟩ := exec_ready_cases hj hoff hr he
  · exact .of_rest hc nofun
  · exact .of_rest hc nofun
  · exact .of_readyNext hc hr'

/-- Settles O38: by what the step executed; a micro-operation that was ready leaves the next one ready. -/
theorem stepKeepsComputationInvariant : Obligations.StepKeepsComputationInvariant := by
  intro s t h hstep
  obtain ⟨i, he, hf | rfl | ⟨-, hb, hd⟩⟩ := step_cases hstep
  · exact h.taken.after_command hf he
  · cases he
    exact h.taken
  · exact h.taken.after_micro hb hd he

theorem State.assertReset_inv (s : State) : Inv s.assertReset := .of_rest (.of_idle rfl rfl rfl rfl rfl rfl) nofun

/-- Settles O40: the reset state is at rest in IDLE. -/
theorem resetMeetsComputationInvariant : Obligations.ResetMeetsComputationInvariant :=
  .of_rest (.of_idle rfl rfl rfl rfl rfl rfl) nofun

/-- Settles O39: reset and steps keep the invariant, and the host's ports and memory are no part of it. -/
theorem eventKeepsComputationInvariant : Obligations.EventKeepsComputationInvariant :=
  fun _ _ _ hs h =>
    Event.apply_keeps (fun s _ => s.assertReset_inv) (fun s _ _ hs => hs.hostSide s.CMD s.MSG_LEN _)
      (fun s _ hs => hs.hostSide s.CMD _ s.MSG) (fun s _ hs => hs.hostSide _ s.MSG_LEN s.MSG)
      stepKeepsComputationInvariant hs h

/-- R213: a command raises at most InputTooLarge. -/
theorem exec_command_faultCode {i : Instr} {s t : State} (hf : i.format = .c) (hs : s.FAULT_CODE ≠ .invariantViolation)
    (he : exec i s = .next t) : t.FAULT_CODE ≠ .invariantViolation := by
  obtain h | ⟨-, h⟩ | ⟨-, h⟩ | ⟨-, -, h⟩ := exec_command i s hf <;> cases h.symm.trans he
  · exact hs
  · exact hs
  · exact nofun
  · exact nofun

theorem exec_ready_faultCode {i : Instr} {s t : State} {n w : U64} (hi : IsActive i) (hI : s.I = some w)
    (h : Ready s n w i) (hs : s.FAULT_CODE ≠ .invariantViolation) (he : exec i s = .next t) :
    t.FAULT_CODE ≠ .invariantViolation := by
  obtain rfl | ⟨-, u, rfl⟩ | ⟨⟨-, hfault, -⟩, -⟩ := exec_ready_cases hi hI h he
  · exact hs
  · exact nofun
  · rw [hfault]
    exact hs

/-- Settles O41: a command completes, a core at rest rests, and the micro-operation of a BUSY core is ready, so that it completes and
raises nothing. -/
theorem invariantViolationIsUnreachable : Obligations.InvariantViolationIsUnreachable := by
  intro s h hs
  cases hc : s.CMD with
  | some c =>
    obtain ⟨t, hstep, he, -⟩ := step_takes_command hc
    exact ⟨t, hstep, exec_command_faultCode (s := s.taken) (decodeC_format c) hs he⟩
  | none =>
    by_cases hb : s.STATUS = .busy
    · obtain ⟨n, w, i, hi, hn, -, hoff, hr⟩ := h.readyNext hb
      obtain ⟨t, he⟩ := exec_micro_completes hi.micro hi.wellFormed s
      exact ⟨t, (step_of_busy hc hb (hn.decodes hi)).trans he, exec_ready_faultCode hi hoff hr hs he⟩
    · exact ⟨s, step_of_rest hc hb, hs⟩

end Sys2Proof.Machine
end

section
/-! PROOFS. Runs within a block (43_compressor.md R149, R152): from any operation of a block the core performs the rest of the block and
comes to NEXT; what it has computed there is the compression function; and an ABORT that waits then ends the computation. -/

namespace Sys2Proof.Machine

/-! ### The rest of a block -/

/-- An undisturbed BUSY core whose `pc` names `i`. -/
structure Performing (s : State) (i : Instr) : Prop where
  undisturbed : Undisturbed s
  busy : s.STATUS = .busy
  names : Names s i

theorem Performing.decodes {s : State} {i : Instr} (h : Performing s i) (hi : IsActive i) : decodeU s.OP s.TCTR = .ok i :=
  h.names.decodes hi

theorem Performing.step {s : State} {i : Instr} (h : Performing s i) (hi : IsActive i) : step s = exec i s :=
  step_of_busy h.undisturbed h.busy (h.decodes hi)

/-- The first of the listed operations, and the rest. -/
theorem Performing.performs_cons {s t u : State} {i : Instr} {ops : List Instr} (h : Performing s i) (hi : IsActive i)
    (he : exec i s = .next t) (hops : Performs t ops u) : Performs s (i :: ops) u :=
  ⟨h.busy, h.decodes hi, t, (h.step hi).trans he, hops⟩

/-- A core that performs a list of operations runs as many steps. -/
theorem Performs.run {ops : List Instr} {s t : State} (h : Performs s ops t) : Host.Core.run core ops.length s = .next t := by
  induction ops generalizing s with
  | nil => exact congrArg Host.Outcome.next h
  | cons i ops ih =>
    obtain ⟨-, -, u, hu, hops⟩ := h
    exact (run_succ hu).trans (ih hops)

/-- How many operations of its block are performed before NEXT, from `i` on. -/
def opsToNext : Instr → Nat
  | .blkMsg | .blkTail | .blkMerge => 131
  | .loadw t => 130 - t.toNat
  | .expand t => 130 - t.toNat
  | .initv => 66
  | .round t => 65 - t.toNat
  | .fold => 1
  | .cmdNone | .start | .abort | .cmdReserved | .idle | .pad | .next | .emit | .rotr | .shr | .ch | .maj | .bsig0
  | .bsig1 | .ssig0 | .ssig1 => 0

theorem opsToNext_le (i : Instr) : opsToNext i ≤ 131 := by
  cases i <;> simp only [opsToNext] <;> omega

/-- R91, R149: each operation of a block but FOLD is followed by one of the block, and the way to NEXT is one shorter there. -/
theorem blockSucc_cases {i : Instr} (hi : midBlock i = true) :
    opsToNext i = opsToNext (blockSucc i) + 1 ∧ (midBlock (blockSucc i) = true ∨ blockSucc i = .next) := by
  cases i
  case blkMsg | blkTail | blkMerge | initv => exact ⟨rfl, .inl rfl⟩
  case fold => exact ⟨rfl, .inr rfl⟩
  case loadw t =>
    rw [blockSucc]
    split
    case isTrue hlt => exact ⟨by simp only [opsToNext, toNat_succ4 t hlt]; omega, .inl rfl⟩
    case isFalse hge =>
      have hlast : t.toNat = 15 := by omega
      exact ⟨by rw [opsToNext, hlast]; rfl, .inl rfl⟩
  case expand t =>
    have h16 : 16 ≤ t.toNat := of_decide_eq_true hi
    rw [blockSucc]
    split
    case isTrue hlt =>
      have hsucc := toNat_succ6 t hlt
      exact ⟨by simp only [opsToNext, hsucc]; omega, .inl (decide_eq_true (by omega))⟩
    case isFalse hge =>
      have hlast : t.toNat = 63 := by omega
      exact ⟨by rw [opsToNext, hlast]; rfl, .inl rfl⟩
  case round t =>
    rw [blockSucc]
    split
    case isTrue hlt => exact ⟨by simp only [opsToNext, toNat_succ6 t hlt]; omega, .inl rfl⟩
    case isFalse hge =>
      have hlast : t.toNat = 63 := by omega
      exact ⟨by rw [opsToNext, hlast]; rfl, .inl rfl⟩
  all_goals cases hi

theorem BlockFrame.trans {s t u : State} (h : BlockFrame s t) (h' : BlockFrame t u) : BlockFrame s u :=
  Eq.trans h' (by rw [h])

theorem Performing.of_blockFrame {s t : State} {i j : Instr} (h : Performing s i) (hframe : BlockFrame s t)
    (hn : Names t j) : Performing t j := by
  obtain ⟨hu, hb, -⟩ := h
  refine ⟨?_, ?_, hn⟩ <;> rw [hframe]
  · exact hu
  · exact hb

/-- R149, R152: from an operation of a block on, the core performs the operations up to NEXT, and what each of them hands on to the
next (`P`) holds there. -/
theorem performs_to_next {P : Instr → State → Prop}
    (hP : ∀ {i s t}, midBlock i = true → P i s → exec i s = .next t → P (blockSucc i) t) (k : Nat) :
    ∀ {i : Instr} {s : State}, opsToNext i = k → (midBlock i = true ∨ i = .next) → Performing s i → P i s →
      ∃ t, Performs s (List.iterate blockSucc i k) t ∧ BlockFrame s t ∧ Performing t .next ∧ P .next t := by
  induction k with
  | zero =>
    intro i s hk hi hs hPs
    obtain hmid | rfl := hi
    · obtain ⟨hpos, -⟩ := blockSucc_cases hmid
      omega
    · exact ⟨s, rfl, rfl, hs, hPs⟩
  | succ k ih =>
    intro i s hk hi hs hPs
    obtain hmid | rfl := hi
    · obtain ⟨hlen, hnext⟩ := blockSucc_cases hmid
      obtain ⟨u, he, hframe, hn, -⟩ := exec_midBlock hmid s
      obtain ⟨t, hperf, hframe', ht, hPt⟩ := ih (by omega) hnext (hs.of_blockFrame hframe hn) (hP hmid hPs he)
      exact ⟨t, hs.performs_cons (midBlock_active hmid) he hperf, hframe.trans hframe', ht, hPt⟩
    · cases hk

/-! ### The compression of a block -/

/-- The schedule words below `k` have been computed from the block `blk` (43_compressor.md R143). -/
def HoldsSchedule (W : Vector (Option Word) 64) (blk : Nat → Byte) (k : Nat) : Prop :=
  ∀ j, j < k → W[j]? = some (some (scheduleWord blk j))

/-- What the registers hold when `i` is next in the compression of `blk` from the hash words `hin` (43_compressor.md R141 to R149). -/
def Compressing (hin : Vector Word 8) (blk : Nat → Byte) (i : Instr) (s : State) : Prop :=
  s.B = fullBlock blk ∧
    match i with
    | .loadw t => s.H = hin.map some ∧ HoldsSchedule s.W blk t.toNat
    | .expand t => s.H = hin.map some ∧ HoldsSchedule s.W blk t.toNat
    | .initv => s.H = hin.map some ∧ HoldsSchedule s.W blk 64
    | .round t => s.H = hin.map some ∧ HoldsSchedule s.W blk 64 ∧ s.wv = (roundsUpTo hin blk t.toNat).held
    | .fold => s.H = hin.map some ∧ s.wv = (roundsUpTo hin blk 64).held
    | .next => s.H = (compress hin blk).map some
    | _ => False

/-- R143: writing the next schedule word. -/
theorem HoldsSchedule.set {W : Vector (Option Word) 64} {blk : Nat → Byte} {k : Nat} (h : HoldsSchedule W blk k)
    (hk : k < 64) : HoldsSchedule (W.setIfInBounds k (some (scheduleWord blk k))) blk (k + 1) := by
  intro j hj
  by_cases he : j = k
  · subst he
    simp [hk]
  · rw [Vector.getElem?_setIfInBounds_ne (Ne.symm he)]
    exact h j (by omega)

theorem Compressing.after_loadw {s t : State} {hin : Vector Word 8} {blk : Nat → Byte} {x : BitVec 4}
    (h : Compressing hin blk (.loadw x) s) (he : exec (.loadw x) s = .next t) :
    Compressing hin blk (blockSucc (.loadw x)) t := by
  obtain ⟨hB, hH, hW⟩ := h
  have hbyte (j : Nat) (hj : j < 64) : s.B[j]? = some (some (blk j)) := by rw [hB, fullBlock_get? _ _ hj]
  cases (exec_loadw_of_held (hbyte _ (by omega)) (hbyte _ (by omega)) (hbyte _ (by omega))
    (hbyte _ (by omega))).symm.trans he
  have hW' := hW.set (by omega)
  rw [scheduleWord_lt x.isLt] at hW'
  rw [blockSucc]
  split
  case isTrue hlt => exact ⟨hB, hH, toNat_succ4 x hlt ▸ hW'⟩
  case isFalse hge =>
    have hlast : x.toNat + 1 = 16 := by omega
    rw [hlast] at hW'
    exact ⟨hB, hH, hW'⟩

theorem Compressing.after_expand {s t : State} {hin : Vector Word 8} {blk : Nat → Byte} {x : BitVec 6}
    (h16 : 16 ≤ x.toNat) (h : Compressing hin blk (.expand x) s) (he : exec (.expand x) s = .next t) :
    Compressing hin blk (blockSucc (.expand x)) t := by
  obtain ⟨hB, hH, hW⟩ := h
  cases (exec_expand_of_held h16 (hW _ (by omega)) (hW _ (by omega)) (hW _ (by omega)) (hW _ (by omega))).symm.trans he
  have hW' := hW.set x.isLt
  rw [scheduleWord_ge h16] at hW'
  rw [blockSucc]
  split
  case isTrue hlt => exact ⟨hB, hH, toNat_succ6 x hlt ▸ hW'⟩
  case isFalse hge =>
    have hlast : x.toNat + 1 = 64 := by omega
    rw [hlast] at hW'
    exact ⟨hB, hH, hW'⟩

theorem Compressing.after_round {s t : State} {hin : Vector Word 8} {blk : Nat → Byte} {x : BitVec 6}
    (h : Compressing hin blk (.round x) s) (he : exec (.round x) s = .next t) :
    Compressing hin blk (blockSucc (.round x)) t := by
  obtain ⟨hB, hH, hW, hv⟩ := h
  have hround : roundUpdate (roundsUpTo hin blk x.toNat) (Config.kAt x) (scheduleWord blk x.toNat) =
      roundsUpTo hin blk (x.toNat + 1) := by
    rw [roundsUpTo_succ, BitVec.ofNat_toNat, BitVec.setWidth_eq]
  cases (exec_round_of_held hv (hW _ x.isLt)).symm.trans he
  rw [blockSucc, hround]
  split
  case isTrue hlt => exact ⟨hB, hH, hW, by rw [toNat_succ6 x hlt]⟩
  case isFalse hge =>
    have hlast : x.toNat + 1 = 64 := by omega
    exact ⟨hB, hH, by rw [hlast]⟩

/-- R149: each operation leaves what the reference has computed when the next one comes. -/
theorem Compressing.after_midBlock {i : Instr} {s t : State} {hin : Vector Word 8} {blk : Nat → Byte}
    (hi : midBlock i = true) (h : Compressing hin blk i s) (he : exec i s = .next t) :
    Compressing hin blk (blockSucc i) t := by
  cases i
  case loadw => exact h.after_loadw he
  case expand => exact h.after_expand (of_decide_eq_true hi) he
  case round => exact h.after_round he
  case initv =>
    obtain ⟨hB, hH, hW⟩ := h
    cases (exec_initv_of_held hH blk).symm.trans he
    exact ⟨hB, hH, hW, rfl⟩
  case fold =>
    obtain ⟨hB, hH, hv⟩ := h
    cases (exec_fold_of_held hv hH).symm.trans he
    exact ⟨hB, rfl⟩
  case blkMsg | blkTail | blkMerge => exact h.2.elim
  all_goals cases hi

/-- R91, R149: `COMPRESS` and then NEXT, with the compression function's value in H. -/
theorem performs_compression {s : State} {hin : Vector Word 8} {blk : Nat → Byte} (hs : Performing s (.loadw 0))
    (hH : s.H = hin.map some) (hB : s.B = fullBlock blk) :
    ∃ t, Performs s (List.iterate blockSucc (.loadw 0) 130) t ∧ BlockFrame s t ∧ Performing t .next ∧
      t.B = s.B ∧ t.H = (compress hin blk).map some := by
  obtain ⟨t, hperf, hframe, ht, hB', hH'⟩ :=
    performs_to_next (P := Compressing hin blk) Compressing.after_midBlock 130 rfl (.inl rfl) hs ⟨hB, hH, nofun⟩
  exact ⟨t, hperf, hframe, ht, hB'.trans hB.symm, hH'⟩

/-- A block buffer is given by its bytes. -/
theorem eq_fullBlock {B : Vector (Option Byte) 64} {blk : Nat → Byte} (h : ∀ j, j < 64 → B[j]? = some (some (blk j))) :
    B = fullBlock blk :=
  Vector.ext fun j hj => Option.some.inj <| by
    rw [← Vector.getElem?_eq_getElem hj, ← Vector.getElem?_eq_getElem hj, h j hj, fullBlock_get? blk j hj]

/-- Settles O44: the operations from LOADW 0 to FOLD are 130, and B is among what they keep. -/
theorem blockRunIsCompression : Obligations.BlockRunIsCompression := by
  intro s hin blk hu hb hop ht hH hB
  obtain ⟨t, hperf, hframe, ⟨-, -, hop', ht'⟩, hB', hH'⟩ := performs_compression ⟨hu, hb, ⟨hop, ht⟩⟩ hH (eq_fullBlock hB)
  have hrun := hperf.run
  rw [List.length_iterate] at hrun
  exact ⟨t, hrun, hop', ht', hH', Eq.trans hframe (by rw [hB'])⟩

/-! ### A recorded ABORT -/

/-- R171, R172: PAD and NEXT with an ABORT pending abandon the computation. -/
theorem exec_of_aborted {i : Instr} {s : State} (hi : i = .pad ∨ i = .next) (ha : s.ABORT_PENDING = true) :
    ∃ u, exec i s = .next (State.abandon u) := by
  obtain rfl | rfl := hi
  · exact ⟨_, exec_pad_of_aborted ha⟩
  · exact ⟨_, congrArg Host.Outcome.next (State.dispatch_of_pending (s := s.advance) ha _)⟩

theorem run_of_aborted {i : Instr} {s : State} (hi : i = .pad ∨ i = .next) (hs : Performing s i)
    (ha : s.ABORT_PENDING = true) : ∃ u, Host.Core.run core 1 s = .next (State.abandon u) := by
  have hact : IsActive i := by obtain rfl | rfl := hi <;> exact ⟨rfl, rfl, nofun⟩
  obtain ⟨u, he⟩ := exec_of_aborted hi ha
  exact ⟨u, run_one ((hs.step hact).trans he)⟩

/-- R152: an ABORT recorded within a block waits until NEXT. -/
theorem run_of_aborted_midBlock {i : Instr} {s : State} (hi : midBlock i = true) (hs : Performing s i)
    (ha : s.ABORT_PENDING = true) : ∃ u, Host.Core.run core (opsToNext i + 1) s = .next (State.abandon u) := by
  obtain ⟨t, hperf, hframe, ht, -⟩ :=
    performs_to_next (P := fun _ _ => True) (fun _ _ _ => trivial) _ rfl (.inl hi) hs trivial
  have hrun := hperf.run
  rw [List.length_iterate] at hrun
  obtain ⟨u, hlast⟩ := run_of_aborted (.inr rfl) ht (hframe.portsKept.pending.trans ha)
  exact ⟨u, run_trans hrun hlast⟩

/-- What stands next in a computation: PAD, an operation of a block, NEXT or EMIT. -/
theorem IsActive.cases {i : Instr} (h : IsActive i) : (i = .pad ∨ i = .next) ∨ midBlock i = true ∨ i = .emit := by
  obtain ⟨hf, hw, hidle⟩ := h
  cases i
  case idle => exact absurd rfl hidle
  case pad => exact .inl (.inl rfl)
  case next => exact .inl (.inr rfl)
  case emit => exact .inr (.inr rfl)
  case expand => exact .inr (.inl hw)
  case blkMsg | blkTail | blkMerge | loadw | initv | round | fold => exact .inr (.inl rfl)
  all_goals cases hf

/-- 30_encoding.md R85: 11 is EMIT's code alone. -/
theorem midBlock_op_ne {i : Instr} (h : midBlock i = true) : i.op ≠ 11 := by
  cases i
  case blkMsg | blkTail | blkMerge | loadw | expand | initv | round | fold => simp [Instr.op]
  all_goals cases h

/-- Settles O48: PAD and NEXT abandon, an operation of a block is followed by NEXT within 131 steps, EMIT ends in DONE. -/
theorem abortEndsWithinOneBlock : Obligations.AbortEndsWithinOneBlock := by
  intro s h hu hb ha
  obtain ⟨n, w, i, hi, hn, -⟩ := h.readyNext hb
  have hs : Performing s i := ⟨hu, hb, hn⟩
  have hop := hn.op
  obtain hdisp | hmid | rfl := hi.cases
  · obtain ⟨t, hrun⟩ := run_of_aborted hdisp hs ha
    have hne : s.OP ≠ 11 := by obtain rfl | rfl := hdisp <;> rw [hop] <;> simp [Instr.op]
    exact ⟨1, _, by omega, hrun, .inl ⟨rfl, rfl, rfl, hne⟩⟩
  · obtain ⟨t, hrun⟩ := run_of_aborted_midBlock hmid hs ha
    have hle := opsToNext_le i
    exact ⟨_, _, by omega, hrun, .inl ⟨rfl, rfl, rfl, hop ▸ midBlock_op_ne hmid⟩⟩
  · exact ⟨1, _, by omega, run_one ((hs.step hi).trans (exec_emit s)), .inr ⟨rfl, hop⟩⟩

end Sys2Proof.Machine
end

section
/-! PROOFS. A whole computation (44_control.md R174 to R178): from START on the core performs the listed micro-operations, window
after window of the padded stream, and ends in DONE with the digest of the message. -/

namespace Sys2Proof.Machine

/-! ### The sequence -/

/-- R129: the number of blocks by the residue of the length. -/
theorem windowCount_spec (len : Nat) : 64 * windowCount len = len + tailLen len := by
  rw [windowCount, tailLen_eq]
  split <;> omega

theorem windowCount_eq_blockCount (len : Nat) : windowCount len = blockCount len := by
  rw [blockCount, ← windowCount_spec, Nat.mul_div_cancel_left _ (by decide)]

theorem blockOps_length (kind : Instr) : (blockOps kind).length = 132 := by
  simp [blockOps, compressOps, scheduleOps, roundOps]

theorem microSequence_length (len : Nat) : (microSequence len).length = 2 + 132 * windowCount len := by
  simp only [microSequence, List.cons_append, List.length_cons, List.length_append, List.length_flatMap, blockOps_length,
    List.map_const', List.sum_replicate, List.length_range, List.length_nil, smul_eq_mul]
  omega

/-- R91: `COMPRESS` is the operations of a block from LOADW 0 on. -/
theorem compressOps_eq_iterate : compressOps = List.iterate blockSucc (.loadw 0) 130 := by decide +kernel

/-- R128, R174: the operation selected at the offset of a window is the one of the window's place. -/
theorem selectBlock_window (len k : Nat) : selectBlock (64 * k) len = blockKind len k := by
  rw [selectBlock, blockKind]
  by_cases hmsg : k < len / 64
  · rw [if_pos (by omega), if_pos hmsg]
  · rw [if_neg (by omega), if_neg hmsg]
    by_cases hmerge : k = len / 64 ∧ len % 64 ≠ 0
    · rw [if_neg (by omega), if_pos hmerge]
    · rw [if_pos (by omega), if_neg hmerge]

theorem midBlock_blockKind (len k : Nat) : midBlock (blockKind len k) = true :=
  selectBlock_window len k ▸ selectBlock_midBlock _ _

/-- What stands next at window `k`: the block operation, or EMIT after the last window. -/
def windowOp (len k : Nat) : Instr := if k = windowCount len then .emit else blockKind len k

/-! ### A computation on a message

`n` is the length of the message `m`, as MSG_LEN gives it. -/

section
variable {m : List Byte} {n : U64}

/-- An undisturbed computation on `m`, PAD performed, without an ABORT or a fault. -/
structure Computing (m : List Byte) (n : U64) (s : State) : Prop where
  undisturbed : Undisturbed s
  busy : s.STATUS = .busy
  notAborted : s.ABORT_PENDING = false
  noFault : s.FAULT_CODE = .none
  length : n.toNat = m.length
  padded : Padded s n
  message : ∀ j, j < m.length → Memory.read s.MSG j = m.getD j 0

/-- The computation comes to window `k`, the blocks before it folded into H (43_compressor.md R150). -/
structure AtWindow (m : List Byte) (n : U64) (k : Nat) (s : State) : Prop where
  computing : Computing m n s
  offset : s.I = some (BitVec.ofNat 64 (64 * k))
  hash : s.H = (hashAfter m k).map some
  names : Names s (windowOp m.length k)

theorem Computing.goTo {s : State} (h : Computing m n s) (i : Instr) : Computing m n (s.goTo i) :=
  ⟨h.undisturbed, h.busy, h.notAborted, h.noFault, h.length, h.padded, h.message⟩

theorem Computing.of_blockFrame {s t : State} (h : Computing m n s) (hframe : BlockFrame s t) (hH : FirstHeld t.H 8) :
    Computing m n t := by
  have hpad := h.padded.of_blockFrame hframe hH
  obtain ⟨hstatus, hfault, -, habort⟩ := hframe.portsKept
  have hcmd : t.CMD = s.CMD := by rw [hframe]
  have hmsg : t.MSG = s.MSG := by rw [hframe]
  exact ⟨hcmd.trans h.undisturbed, hstatus.trans h.busy, habort.trans h.notAborted, hfault.trans h.noFault, h.length, hpad,
    hmsg ▸ h.message⟩

/-- R121: an offset in the padded stream is a number of 64 bits. -/
theorem Computing.toNat_offset {s : State} (h : Computing m n s) {k : Nat} (hk : k ≤ windowCount m.length) :
    64 * k < 2 ^ 62 ∧ (BitVec.ofNat 64 (64 * k)).toNat = 64 * k := by
  have hfit := total_lt n.toNat h.padded.admitted.length_lt
  rw [h.length, ← windowCount_spec] at hfit
  exact ⟨by omega, Nat.mod_eq_of_lt (by omega)⟩

/-- R171: the dispatch at the offset of window `k`. -/
theorem Computing.dispatch {s : State} (h : Computing m n s) {k : Nat} (hk : k ≤ windowCount m.length)
    (hI : s.I = some (BitVec.ofNat 64 (64 * k))) (hH : s.H = (hashAfter m k).map some) :
    AtWindow m n k (s.dispatch (64 * k)) := by
  have hspec := windowCount_spec m.length
  have hd : s.dispatch (64 * k) = s.goTo (windowOp m.length k) := by
    obtain ⟨ha, -⟩ | ⟨-, hend, hd⟩ | ⟨-, hwin, hd⟩ := h.padded.dispatch_cases (k := 64 * k) (by omega) (by rw [h.length]; omega)
    · exact absurd (ha.symm.trans h.notAborted) nofun
    · rw [hd, windowOp, if_pos (by rw [h.length] at hend; omega)]
    · rw [hd, windowOp, if_neg (by rw [h.length] at hwin; omega), h.length, selectBlock_window]
  rw [hd]
  exact ⟨h.goTo _, hI, hH, rfl, rfl⟩

/-! ### One window -/

/-- 30_encoding.md R70: below the message's length the padded stream is the message. -/
theorem Computing.streamByte_message {s : State} (h : Computing m n s) {j : Nat} (hj : j < n.toNat) :
    s.readMSG j = streamByte m j := by
  have hj' : j < m.length := h.length ▸ hj
  rw [State.readMSG_of h.padded.admitted.LEN_eq hj, h.message j hj', streamByte, if_pos hj']

/-- 30_encoding.md R70: from there on it is the tail. -/
theorem Computing.streamByte_tail {s : State} (h : Computing m n s) {j : Nat} (hge : n.toNat ≤ j)
    (hlt : j < n.toNat + tailLen n.toNat) : s.readT (j - n.toNat) = streamByte m j := by
  obtain ⟨-, -, -, -, -, htail⟩ := h.padded
  have hj : ¬j < m.length := h.length ▸ Nat.not_lt.mpr hge
  rw [State.readT_of (htail (j - n.toNat) (by omega)), streamByte, if_neg hj, h.length]

theorem State.fillBlock_congr (s : State) {f g : Nat → Byte} (h : ∀ j, j < 64 → f j = g j) : s.fillBlock f = s.fillBlock g := by
  rw [State.fillBlock, State.fillBlock, fullBlock_congr h]

/-- R125 to R127, R130: the selected operation fills B with the window's 64 bytes of the padded stream. -/
theorem Computing.exec_selectBlock {s : State} (h : Computing m n s) {i : U64} (hI : s.I = some i)
    (hwin : i.toNat + 64 ≤ n.toNat + tailLen n.toNat) :
    exec (selectBlock i.toNat n.toNat) s = .next (s.fillBlock fun j => streamByte m (i.toNat + j)) := by
  have hlen := State.readLEN_of h.padded.admitted.LEN_eq
  have hoff := State.readI_of hI
  obtain ⟨hin, hsel⟩ | ⟨hout, hsel⟩ | ⟨-, -, hsel⟩ := selectBlock_cases i.toNat n.toNat <;> rw [hsel] <;>
    refine congrArg Host.Outcome.next (s.fillBlock_congr fun j hj => ?_)
  · rw [hoff, h.streamByte_message (by omega)]
  · rw [hoff, hlen, if_pos (by omega), h.streamByte_tail (by omega) (by omega)]
  · rw [hoff, hlen]
    split
    · exact h.streamByte_message ‹_›
    · exact h.streamByte_tail (by omega) (by omega)

/-- R147: after the last operation of window `k`, NEXT comes to window `k + 1`. -/
theorem Computing.exec_next {s : State} (h : Computing m n s) {k : Nat} (hk : k < windowCount m.length)
    (hI : s.I = some (BitVec.ofNat 64 (64 * k))) (hH : s.H = (hashAfter m (k + 1)).map some) :
    ∃ t, exec .next s = .next t ∧ AtWindow m n (k + 1) t := by
  obtain ⟨hfit, hoff⟩ := h.toNat_offset hk.le
  have hsum : BitVec.ofNat 64 (64 * k) + 64 = BitVec.ofNat 64 (64 * (k + 1)) := (BitVec.ofNat_add ..).symm
  have hadv := State.advance_of_lt hI (by omega)
  have hcomp : Computing m n s.advance := by
    rw [hadv]
    exact ⟨h.undisturbed, h.busy, h.notAborted, h.noFault, h.length, h.padded, h.message⟩
  have hI' : s.advance.I = some (BitVec.ofNat 64 (64 * (k + 1))) := by rw [hadv, ← hsum]
  refine ⟨_, exec_next_of_held hI (by omega), ?_⟩
  rw [hoff]
  exact hcomp.dispatch hk hI' hH

theorem AtWindow.performing {s : State} {k : Nat} (h : AtWindow m n k s) : Performing s (windowOp m.length k) :=
  ⟨h.computing.undisturbed, h.computing.busy, h.names⟩

/-- R174: the 132 micro-operations of a window compress its block into H and come to the next window. -/
theorem AtWindow.performs_block {s : State} {k : Nat} (h : AtWindow m n k s) (hk : k < windowCount m.length) :
    ∃ t, Performs s (blockOps (blockKind m.length k)) t ∧ AtWindow m n (k + 1) t := by
  have hspec := windowCount_spec m.length
  obtain ⟨-, hoff⟩ := h.computing.toNat_offset hk.le
  have hfirst : Performing s (blockKind m.length k) := by
    have hw := h.performing
    rwa [windowOp, if_neg hk.ne] at hw
  have hfill : exec (blockKind m.length k) s = .next (s.fillBlock fun j => streamByte m (64 * k + j)) := by
    have hlen := h.computing.length
    have he := h.computing.exec_selectBlock h.offset (by rw [hlen]; omega)
    rwa [hoff, hlen, selectBlock_window] at he
  have hframe : BlockFrame s (s.fillBlock fun j => streamByte m (64 * k + j)) := rfl
  obtain ⟨u, hperf, hframe', hu, -, hH⟩ :=
    performs_compression (hfirst.of_blockFrame hframe ⟨rfl, rfl⟩) h.hash (s.fillBlock_B _)
  have hframe := hframe.trans hframe'
  have hI : u.I = s.I := by rw [hframe]
  obtain ⟨t, hnext, ht⟩ := (h.computing.of_blockFrame hframe (hH ▸ firstHeld_map _)).exec_next hk (hI.trans h.offset) hH
  refine ⟨t, hfirst.performs_cons (midBlock_active (midBlock_blockKind _ _)) hfill ?_, ht⟩
  rw [compressOps_eq_iterate]
  exact hperf.append (hu.performs_cons ⟨rfl, rfl, nofun⟩ hnext rfl)

/-! ### The whole computation -/

/-- What START leaves for PAD: the length latched, HINIT in H, the first offset in I (R161). -/
structure Starting (m : List Byte) (n : U64) (s : State) : Prop where
  performing : Performing s .pad
  notAborted : s.ABORT_PENDING = false
  noFault : s.FAULT_CODE = .none
  length : n.toNat = m.length
  admitted : Admitted s n
  offset : s.I = some 0
  hash : s.H = Config.HINIT.map some
  message : ∀ j, j < m.length → Memory.read s.MSG j = m.getD j 0

/-- R120: PAD comes to window 0. -/
theorem Starting.exec_pad {s : State} (h : Starting m n s) : ∃ t, exec .pad s = .next t ∧ AtWindow m n 0 t := by
  obtain ⟨hu, hb, -⟩ := h.performing
  have hcomp : Computing m n (s.padWrites n.toNat) :=
    ⟨hu, hb, h.notAborted, h.noFault, h.length, padded_padWrites h.admitted, h.message⟩
  refine ⟨_, Sys2Proof.Machine.exec_pad s, ?_⟩
  rw [State.readLEN_of h.admitted.LEN_eq]
  exact hcomp.dispatch (Nat.zero_le _) h.offset h.hash

/-- R174, by induction on the number of windows: PAD and the first `k` blocks. -/
theorem Starting.performs_windows {s : State} (h : Starting m n s) (k : Nat) (hk : k ≤ windowCount m.length) :
    ∃ t, Performs s (.pad :: (List.range k).flatMap fun j => blockOps (blockKind m.length j)) t ∧ AtWindow m n k t := by
  induction k with
  | zero =>
    obtain ⟨t, he, ht⟩ := h.exec_pad
    exact ⟨t, h.performing.performs_cons ⟨rfl, rfl, nofun⟩ he rfl, ht⟩
  | succ k ih =>
    obtain ⟨u, hperf, hu⟩ := ih (by omega)
    obtain ⟨t, hblock, ht⟩ := hu.performs_block hk
    have hall := hperf.append hblock
    rw [List.range_succ, List.flatMap_append, List.flatMap_singleton]
    exact ⟨t, hall, ht⟩

/-- What a finished computation leaves: DONE with the digest of the message and no fault (R176). -/
structure Finished (m : List Byte) (t : State) : Prop where
  done : t.STATUS = .done
  digest : t.DIGEST = some (sha256 m)
  noFault : t.FAULT_CODE = .none
  op : t.OP = 0
  tctr : t.TCTR = 0

/-- 30_encoding.md R75: EMIT's bytes are the reference's. -/
theorem State.hashBytes_of_map {s : State} {h : Vector Word 8} (hH : s.H = h.map some) : s.hashBytes = digestBytes h := by
  rw [State.hashBytes, digestBytes]
  exact congrArg Vector.ofFn (funext fun j => by rw [State.readH_map hH (j.val / 4) (by omega)])

/-- R148: EMIT after the last window. -/
theorem AtWindow.performs_emit {s : State} (h : AtWindow m n (windowCount m.length) s) :
    ∃ t, Performs s [.emit] t ∧ Finished m t := by
  have hs : Performing s .emit := by
    have hw := h.performing
    rwa [windowOp, if_pos rfl] at hw
  refine ⟨s.emitted, hs.performs_cons ⟨rfl, rfl, nofun⟩ (exec_emit s) rfl, rfl, ?_, h.computing.noFault, rfl, rfl⟩
  rw [State.emitted_DIGEST, State.hashBytes_of_map h.hash, windowCount_eq_blockCount, sha256]

theorem Starting.performs_microSequence {s : State} (h : Starting m n s) :
    ∃ t, Performs s (microSequence m.length) t ∧ Finished m t := by
  obtain ⟨u, hperf, hu⟩ := h.performs_windows _ le_rfl
  obtain ⟨t, hemit, ht⟩ := hu.performs_emit
  exact ⟨t, hperf.append hemit, ht⟩

end

/-- R161: the step that takes START of an admitted length. -/
theorem step_of_start {s : State} (hb : s.STATUS ≠ .busy) (hc : s.CMD = some 1) (hlt : s.MSG_LEN.toNat < 2 ^ 61) :
    step s = .next s.taken.begin :=
  (step_of_command hc).trans (exec_start_of_admitted (s := s.taken) hb hlt)

/-- R174, R176: the step that takes START and then the listed sequence, to DONE with the digest. -/
theorem start_performs_microSequence {s : State} {m : List Byte} (hb : s.STATUS ≠ .busy) (hc : s.CMD = some 1)
    (hlt : s.MSG_LEN.toNat < 2 ^ 61) (hlen : s.MSG_LEN.toNat = m.length)
    (hmsg : ∀ j, j < m.length → Memory.read s.MSG j = m.getD j 0) :
    ∃ u t, step s = .next u ∧ Performs u (microSequence m.length) t ∧ Finished m t := by
  have hstart : Starting m s.MSG_LEN s.taken.begin :=
    ⟨⟨rfl, rfl, ⟨rfl, rfl⟩⟩, rfl, rfl, hlen, ⟨rfl, hlt, firstHeld_HINIT⟩, rfl, rfl, hmsg⟩
  obtain ⟨t, hperf, ht⟩ := hstart.performs_microSequence
  exact ⟨_, t, step_of_start hb hc hlt, hperf, ht⟩

/-- R176: the same as a run, whose number of steps depends on the length alone. -/
theorem start_run {s : State} {m : List Byte} (hb : s.STATUS ≠ .busy) (hc : s.CMD = some 1)
    (hlt : s.MSG_LEN.toNat < 2 ^ 61) (hlen : s.MSG_LEN.toNat = m.length)
    (hmsg : ∀ j, j < m.length → Memory.read s.MSG j = m.getD j 0) :
    ∃ t, Host.Core.run core (1 + (microSequence m.length).length) s = .next t ∧ Finished m t := by
  obtain ⟨u, t, hstep, hperf, ht⟩ := start_performs_microSequence hb hc hlt hlen hmsg
  exact ⟨t, run_trans (run_one hstep) hperf.run, ht⟩

/-- The bytes of the memory below MSG_LEN, as a message. -/
def messageOf (s : State) : List Byte := (List.range s.MSG_LEN.toNat).map fun j => Memory.read s.MSG j

@[simp] theorem messageOf_length (s : State) : (messageOf s).length = s.MSG_LEN.toNat := by
  rw [messageOf, List.length_map, List.length_range]

theorem messageOf_getD (s : State) {j : Nat} (h : j < s.MSG_LEN.toNat) : (messageOf s).getD j 0 = Memory.read s.MSG j := by
  simp [messageOf, h]

/-- Settles O46: the run has one step for START and one for each listed operation. -/
theorem digestIsSha256OfMessage : Obligations.DigestIsSha256OfMessage := by
  intro s m hb hc hlt hlen hmsg
  obtain ⟨t, hrun, hdone, hdigest, hfault, hop, ht⟩ := start_run hb hc (hlen ▸ hlt) hlen hmsg
  rw [microSequence_length, windowCount_eq_blockCount, blockCount] at hrun
  exact ⟨t, hrun, hdone, hdigest, hfault, hop, ht⟩

/-- Settles O45: the count of the sequence, and the computation on whatever the memory holds. -/
theorem computationPerformsMicroSequence : Obligations.ComputationPerformsMicroSequence := by
  refine ⟨fun n => ⟨microSequence_length n, windowCount_eq_blockCount n⟩, fun s hb hc hlt => ?_⟩
  obtain ⟨u, t, hstep, hperf, ht⟩ := start_performs_microSequence hb hc hlt (messageOf_length s).symm fun j hj =>
    (messageOf_getD s (messageOf_length s ▸ hj)).symm
  rw [messageOf_length] at hperf
  exact ⟨u, t, hstep, hperf, ht.done⟩

/-- Settles O47: both cores compute the digest of the same message in the same number of steps. -/
theorem digestDependsOnMessageAlone : Obligations.DigestDependsOnMessageAlone := by
  intro s s' hb hb' hc hc' hlen hlt hmsg
  have hread (j : Nat) (hj : j < (messageOf s).length) : Memory.read s.MSG j = (messageOf s).getD j 0 :=
    (messageOf_getD s (messageOf_length s ▸ hj)).symm
  have hread' (j : Nat) (hj : j < (messageOf s).length) : Memory.read s'.MSG j = (messageOf s).getD j 0 :=
    (hmsg j (messageOf_length s ▸ hj)).symm.trans (hread j hj)
  obtain ⟨t, hrun, ht⟩ := start_run hb hc hlt (messageOf_length s).symm hread
  obtain ⟨t', hrun', ht'⟩ := start_run hb' hc' (hlen ▸ hlt) (hlen ▸ (messageOf_length s).symm) hread'
  exact ⟨_, t, t', hrun, hrun', ht.done, ht'.done, by rw [ht.digest, Option.isSome_some], ht.digest.trans ht'.digest.symm⟩

end Sys2Proof.Machine
end
